-- ==== Sys2Proof/Word.lean ====
section
/-! DEFINITION. The word types of the RPE-SI block (00_scope.md R13, R15; 30_encoding.md R90): bytes, 32-bit
register values, the 40-bit command word, the 6-bit chip address and the 4-bit control register index. -/

namespace Sys2Proof

/-- A byte is 8 bits (R13). -/
abbrev Byte := BitVec 8

/-- A 32-bit control register value, command argument or result (R37, R44, R90). -/
abbrev Word32 := BitVec 32

/-- The 40-bit command word `cmd[39:0]` (R90). -/
abbrev CmdWord := BitVec 40

/-- A 6-bit address of the chip register space (R60). -/
abbrev Addr := BitVec 6

/-- A 4-bit control register index (R44). -/
abbrev CsrIdx := BitVec 4

/-- The status range 0x30 to 0x3D of the chip register space (R5 `STATUS_RANGE`, R61). -/
def isStatus (a : Addr) : Bool := decide (0x30 ≤ a.toNat ∧ a.toNat ≤ 0x3D)

/-- An address of the ordinary range (R61). -/
abbrev OrdAddr := { a : Addr // isStatus a = false }

end Sys2Proof
end

