-- ==== Sys2Proof/Config.lean ====
section
/-! DEFINITION. What an implementation fixes: the parameters of 00_scope.md R5 to R9, the configuration record they
are functions of (10_state.md R23 to R30), their suggested defaults (93_implementation_defined.md GK2 to GK7), the
well-formedness of a configuration (R9, ID7) and the FREE VALUES the spec leaves open (opaque, no body). -/

namespace Sys2Proof

/-! ## Parameters the spec fixes (R5, R8) -/

/-- `OSC_DEFAULT_HZ` (R5). -/
def oscDefaultHz : Nat := 26000000
/-- `FREQ_MIN_HZ` (R5). -/
def freqMinHz : Nat := 300000000
/-- `FREQ_MAX_HZ` (R5). -/
def freqMaxHz : Nat := 928000000
/-- `FREQ_DIV` = 2^16 (R5; conflict C1). -/
def freqDiv : Nat := 65536
/-- `DEV_DIV` = 2^17 (R5). -/
def devDiv : Nat := 131072
/-- `PA_BP8`, dBm (R5). -/
def paBp8 : List Int := [-30, -20, -15, -10, 0, 5, 7]
/-- `PA_BP10`, dBm (R5). -/
def paBp10 : List Int := [-30, -20, -15, -10, -6, 0, 5, 7, 10]
/-- `PARTNUM_EXPECT` (R5). -/
def partnumExpect : Byte := 0x00
/-- `VERSION_EXPECT` (R5). -/
def versionExpect : Byte := 0x14
/-- `RX_TRIES` (R5). -/
def rxTries : Nat := 3
/-- `RX_RETRY_GAP_US`, a lower bound (R5, R372). -/
def rxRetryGapUs : Nat := 40
/-- `RESET_CS_DWELL_US`, a lower bound (R5, R372). -/
def resetCsDwellUs : Nat := 40
/-- `QUEUE_DEPTH` (R8, decision D23). -/
def queueDepth : Nat := 1
/-- `STATUS_READ_BIT6` (R8, decision D18): bit 6 of a status register read header is 1. -/
def statusReadBit6 : Bool := true

/-! ## The configuration record (DOC0 RadioConfiguration) -/

/-- The eight `CFG_*` registers: the tuple `cfg` that INIT hands to `PKT_PRE` and `PKT_POST` (R250). -/
structure RadioConfig where
  /-- `CFG_OSC_HZ` (R23). -/
  oscHz : Word32
  /-- `CFG_FREQ_HZ` (R24). -/
  freqHz : Word32
  /-- `CFG_BW_HZ` (R25). -/
  bwHz : Word32
  /-- `CFG_DEV_HZ` (R26). -/
  devHz : Word32
  /-- `CFG_PWR_DBM`, two's complement (R30). -/
  pwrDbm : Byte
  /-- `CFG_MODEM`: `MOD` 2:0, `MANCH` 3, `DCOFF` 4, `SYNC` 7:5 (R27). -/
  modem : Byte
  /-- `CFG_PKT` (R28). -/
  pkt : BitVec 9
  /-- `CFG_EDGE` (R29). -/
  edge : BitVec 2
deriving DecidableEq, Repr

/-! ## Open parameters (R9) -/

/-- The eight chip states of R98. -/
inductive ChipState where
  | idle | rx | tx | rxFifoOverflow | txFifoOverflow | calibrate | settling | rxAbort
deriving DecidableEq, Repr

/-- The addresses `REG.*` (R9). -/
structure RegMap where
  freq2 : Addr
  freq1 : Addr
  freq0 : Addr
  mdmcfg4 : Addr
  mdmcfg2 : Addr
  deviatn : Addr
  frend0 : Addr
  patable : Addr
  rxfifo : Addr
  rxbytes : Addr
  partnum : Addr
  version : Addr
deriving DecidableEq, Repr

/-- The strobe command bytes `STB.*` (R9). -/
structure StrobeMap where
  sres : Byte
  srx : Byte
  sfrx : Byte
deriving DecidableEq, Repr

/-- `MDMCFG2_LAYOUT` (R9, R203): the lowest bit position of each of the four fields. -/
structure Mdmcfg2Layout where
  dcoff : Nat
  mod : Nat
  manch : Nat
  sync : Nat
deriving DecidableEq, Repr

/-- The fields of `CFG_PKT` (R28). -/
inductive PktField where
  | pktfmt | lenmode | crcen | crcaf | adrchk | append
deriving DecidableEq, Repr

/-- One register write of a described packet function: the byte is `base` with each field placed at its shift. -/
structure PktWrite where
  addr : Addr
  base : Byte
  fields : List (PktField × Nat)
deriving DecidableEq, Repr

/-- A packet parameter function `PKT_PRE` or `PKT_POST` (R9) as plain data: a list of described writes, or
`external`, an arbitrary function of the configuration record held by an opaque constant (log 10). -/
inductive PktFun where
  | writes (ws : List PktWrite)
  | external
deriving DecidableEq, Repr

/-- `DEV_TABLE` (R6, R167) as plain data: DOC0's formula of R161, 56 given entries in hertz, or `external`, an
arbitrary table depending on the oscillator, held by an opaque constant (log 9). -/
inductive DevTable where
  | formula
  | entries (hz : List Rat)
  | external
deriving DecidableEq, Repr

/-- `RECONCILE` (R8, R230) as plain data: the default of R230, or `external`, an arbitrary function to 0..255
(ID21) held by an opaque constant. -/
inductive Reconcile where
  | default
  | external
deriving DecidableEq, Repr

/-- The parameters of R8 and R9 that a configuration supplies. -/
structure Config where
  reg : RegMap
  stb : StrobeMap
  /-- `PA_TAB[0..3]`; a wrong length is a fatal fault of SETPWR, not an ill-formed configuration (R184, ID8). -/
  paTab : Vector (List Byte) 4
  /-- `FIXED_REGS` (R9, R254). -/
  fixedRegs : List (Addr × Byte)
  pktPre : PktFun
  pktPost : PktFun
  mdmcfg2 : Mdmcfg2Layout
  /-- `FREND0_PA_BIT` (R206). -/
  frend0PaBit : Fin 8
  /-- `RXBYTES_MASK` (R230). -/
  rxbytesMask : Byte
  /-- `STATE_MAP` (R98): the chip state of each 3-bit code. -/
  stateMap : Vector ChipState 8
  reconcile : Reconcile
  devTable : DevTable
deriving DecidableEq, Repr

/-! ## Suggested defaults (GK2 to GK7), PRESUMED: the spec marks them general knowledge, not in source -/

/-- GK2 (log 2, PRESUMED, unsafe). -/
def RegMap.suggested : RegMap :=
  { freq2 := 0x0D, freq1 := 0x0E, freq0 := 0x0F, mdmcfg4 := 0x10, mdmcfg2 := 0x12, deviatn := 0x15,
    frend0 := 0x22, patable := 0x3E, rxfifo := 0x3F, rxbytes := 0x3B, partnum := 0x30, version := 0x31 }

/-- GK3 (log 3, PRESUMED, unsafe). -/
def StrobeMap.suggested : StrobeMap := { sres := 0x30, srx := 0x34, sfrx := 0x3A }

/-- GK4 (log 4, PRESUMED, unsafe). -/
def suggestedPaTab : Vector (List Byte) 4 :=
  #v[[0x12, 0x0D, 0x1C, 0x34, 0x51, 0x85, 0xCB, 0xC2],
     [0x12, 0x0E, 0x1D, 0x34, 0x60, 0x84, 0xC8, 0xC0],
     [0x03, 0x17, 0x1D, 0x26, 0x37, 0x50, 0x86, 0xCD, 0xC5, 0xC0],
     [0x03, 0x0E, 0x1E, 0x27, 0x38, 0x8E, 0x84, 0xCC, 0xC3, 0xC0]]

/-- GK7 (log 7, PRESUMED, unsafe): packet control registers 0x07 and 0x08. -/
def suggestedPktPost : PktFun :=
  .writes [{ addr := 0x07, base := 0, fields := [(.crcaf, 3), (.append, 2), (.adrchk, 0)] },
           { addr := 0x08, base := 0, fields := [(.pktfmt, 4), (.crcen, 2), (.lenmode, 0)] }]

/-- The default `STATE_MAP`: DOC0's list order (R98, decision D13). -/
def defaultStateMap : Vector ChipState 8 :=
  #v[.idle, .rx, .tx, .rxFifoOverflow, .txFifoOverflow, .calibrate, .settling, .rxAbort]

/-- The `STATE_MAP` that follows the datasheet's assignment (GK8); an admissible alternative, not the default. -/
def datasheetStateMap : Vector ChipState 8 :=
  #v[.idle, .rx, .tx, .rxAbort, .calibrate, .settling, .rxFifoOverflow, .txFifoOverflow]

/-- The configuration of the suggested defaults GK2 to GK7 and the decided defaults D9, D13, D16 (logs 1 to 8). -/
def Config.suggested : Config :=
  { reg := RegMap.suggested
    stb := StrobeMap.suggested
    paTab := suggestedPaTab
    fixedRegs := []
    pktPre := .writes []
    pktPost := suggestedPktPost
    mdmcfg2 := { dcoff := 7, mod := 4, manch := 3, sync := 0 }
    frend0PaBit := 0
    rxbytesMask := 0x7F
    stateMap := defaultStateMap
    reconcile := .default
    devTable := .formula }

/-! ## Well-formed configurations (R9, R98, R167, R254, ID7) -/

/-- R9: configuration registers below 0x30, PATABLE and RXFIFO outside the status range, the three status
registers inside it. -/
def RegMap.wf (r : RegMap) : Bool :=
  [r.freq2, r.freq1, r.freq0, r.mdmcfg4, r.mdmcfg2, r.deviatn, r.frend0].all (fun a => decide (a.toNat < 0x30))
    && !isStatus r.patable && !isStatus r.rxfifo
    && isStatus r.rxbytes && isStatus r.partnum && isStatus r.version

/-- R254, ID7: a described write never names a status-range address. -/
def PktFun.wf : PktFun → Bool
  | .writes ws => ws.all (fun w => !isStatus w.addr)
  | .external => true

/-- R167: 56 non-negative rationals. -/
def DevTable.wf : DevTable → Bool
  | .formula => true
  | .entries t => decide (t.length = 56) && t.all (fun q => decide (0 ≤ q))
  | .external => true

/-- R203: the four fields fill the byte; 1 + 3 + 1 + 3 bits cover all eight positions (log 29, DEDUCED). -/
def Mdmcfg2Layout.wf (l : Mdmcfg2Layout) : Bool :=
  ((1 <<< l.dcoff) ||| (7 <<< l.mod) ||| (1 <<< l.manch) ||| (7 <<< l.sync) : Nat) == 255

/-- R98: a bijection onto the eight states with `STATE_MAP(1) = RX`. -/
def stateMapWf (m : Vector ChipState 8) : Bool :=
  decide (m.toList.Nodup) && decide (m.get 1 = ChipState.rx)

/-- The configuration is well formed (R352 point 1, ID7). -/
def Config.wf (c : Config) : Bool :=
  c.reg.wf && c.fixedRegs.all (fun w => !isStatus w.1) && c.pktPre.wf && c.pktPost.wf
    && c.mdmcfg2.wf && stateMapWf c.stateMap && c.devTable.wf

/-! ## Free values: nothing constrains them (no body) -/

/-- The success flag of an oracle answer that nobody has decided yet (R12, ID5; log 11). -/
opaque Config.freeOk : Nat → Bool
/-- Its status byte (R12, ID5; log 11). -/
opaque Config.freeStatus : Nat → Byte
/-- Its data bytes, by index (R12, ID5; log 11, 12). -/
opaque Config.freeByte : Nat → Nat → Byte
/-- How many more times a ready-wait reads the data-in line high before it reads low; `none`: it never does
(R253, R366, ID6; log 13). -/
opaque Config.freeReadyAfter : Nat → Option Nat
/-- Whether an edge comes before the timeout in an UPDATE that waits (R263, ID13; log 14). -/
opaque Config.freeEdgeFirst : Nat → Bool
/-- What an encoder would see of an oscillator register that holds no value; no run reaches it (R31; log 24). -/
opaque Config.unsetOscHz : Nat
/-- The frequency word for a zero oscillator, which R122 does not define; no run reaches it (R252; log 24). -/
opaque Config.freqWordNoOsc : Nat → Nat
/-- `UPDATE_TIMEOUT` (R9): no rule reads it (log 28). -/
opaque Config.updateTimeoutUs : Nat
/-- An arbitrary `PKT_PRE` (R9); its addresses are ordinary, as R254 requires (log 10). -/
opaque Config.pktPreExternal : RadioConfig → List (OrdAddr × Byte)
/-- An arbitrary `PKT_POST` (R9; log 10). -/
opaque Config.pktPostExternal : RadioConfig → List (OrdAddr × Byte)
/-- An arbitrary `DEV_TABLE` that may depend on the oscillator (R167; log 9). -/
opaque Config.devTableExternal : Nat → Fin 56 → NNRat
/-- An arbitrary `RECONCILE` to 0..255 (R230, ID21; log 8). -/
opaque Config.reconcileExternal : Byte → BitVec 4 → Byte

end Sys2Proof
end

