-- ==== Sys2Proof/Syntax.lean ====
section
/-! DEFINITION. The instructions: one constructor per row of spec/opcode_table.json (30_encoding.md R91, R93, R95). -/

namespace Sys2Proof

/-- The seventeen commands and three reserved command words of the 40-bit format (R91, R93), and the four bus header
forms of the 8-bit format (R95, R96), each with the operands its encoding carries. -/
inductive Instr where
  /-- `CFGW idx, value` (R300). -/
  | cfgw (idx : CsrIdx) (value : Word32)
  /-- `CFGR idx` (R301). -/
  | cfgr (idx : CsrIdx)
  /-- `SETFREQ hz` (R120). -/
  | setfreq (hz : Word32)
  /-- `SETBW hz` (R140). -/
  | setbw (hz : Word32)
  /-- `SETDEV hz` (R160). -/
  | setdev (hz : Word32)
  /-- `SETPWR dbm`, two's complement (R180). -/
  | setpwr (dbm : Byte)
  /-- `SETMOD` (R200). -/
  | setmod
  /-- `WRREG addr, value` (R281). -/
  | wrreg (addr : Addr) (value : Byte)
  /-- `RDREG addr` (R282). -/
  | rdreg (addr : Addr)
  /-- `WRBURST addr, len` (R286). -/
  | wrburst (addr : Addr) (len : Byte)
  /-- `RDBURST addr, len` (R285). -/
  | rdburst (addr : Addr) (len : Byte)
  /-- `INTERP.W status` (R235). -/
  | interpW (status : Byte)
  /-- `INTERP.R status` (R235). -/
  | interpR (status : Byte)
  /-- `INIT` (R250). -/
  | init
  /-- `BEGINRX` (R258). -/
  | beginrx
  /-- `UPDATE` (R263). -/
  | update
  /-- `STROBE byte` (R283). -/
  | strobe (byte : Byte)
  /-- A command word with `op` 0x0 (R93). -/
  | reserved0
  /-- A command word with `op` 0xE (R93). -/
  | reservedE
  /-- A command word with `op` 0xF (R93). -/
  | reservedF
  /-- A single write on the bus: header, then one byte out (R64, R96). -/
  | hdrWrite1 (addr : Addr) (value : Byte)
  /-- A burst write on the bus: header, then the payload (R66, R96). -/
  | hdrWriteN (addr : Addr) (payload : List Byte)
  /-- A single read of an ordinary address on the bus (R65, R96). -/
  | hdrRead1 (addr : Addr)
  /-- A burst read of an ordinary address, or the single read of a status register (R65, R67, R96). -/
  | hdrReadN (addr : Addr) (len : Byte)
deriving DecidableEq, Repr

end Sys2Proof
end

