-- ==== Sys2Proof/WellFormed.lean ====
section
/-! DEFINITION. Which instructions an encoding carries: the command words admit every operand value (30_encoding.md
R92); the bus header forms have the address ranges and payload lengths of R61, R66, R67, R71, R96. -/

namespace Sys2Proof

/-- The well-formedness check of an instruction. -/
def Instr.wf : Instr → Bool
  | .cfgw _ _ => true
  | .cfgr _ => true
  | .setfreq _ => true
  | .setbw _ => true
  | .setdev _ => true
  | .setpwr _ => true
  | .setmod => true
  | .wrreg _ _ => true
  | .rdreg _ => true
  | .wrburst _ _ => true
  | .rdburst _ _ => true
  | .interpW _ => true
  | .interpR _ => true
  | .init => true
  | .beginrx => true
  | .update => true
  | .strobe _ => true
  | .reserved0 => true
  | .reservedE => true
  | .reservedF => true
  | .hdrWrite1 a _ => !isStatus a
  | .hdrWriteN a payload => !isStatus a && decide (1 ≤ payload.length) && decide (payload.length ≤ 8)
  | .hdrRead1 a => !isStatus a
  | .hdrReadN a len => if isStatus a then decide (len = 1) else decide (len ≠ 0)

end Sys2Proof
end

