-- ==== Sys2Proof/Decode.lean ====
section
/-! DEFINITION. Encodings: the bus header byte (30_encoding.md R95, R96), the decoder of the two formats (R90 to R93,
R95), and the encoder. An instruction's words are either one 40-bit command word on the host port or a frame of bytes
on the bus: the header followed by its payload slots. -/

namespace Sys2Proof

/-- The words of an instruction as the hardware carries them. -/
inductive Bits where
  /-- One command word (format `CMD40`, R90). -/
  | cmd40 (w : CmdWord)
  /-- A bus frame (format `HDR8`, R95): the header byte, then one byte for each payload slot. -/
  | hdr8 (bytes : List Byte)
deriving DecidableEq, Repr

/-- `Hdr(r, b, a)` (R96). -/
def hdr (r b : BitVec 1) (a : Addr) : Byte :=
  if isStatus a = true ∧ r = 1 ∧ b = 0 then
    0x80#8 ||| ((BitVec.ofBool statusReadBit6).setWidth 8 <<< 6) ||| a.setWidth 8
  else (r.setWidth 8 <<< 7) ||| (b.setWidth 8 <<< 6) ||| a.setWidth 8

/-! ## The command word -/

/-- `op`, bits 39:36 (R90). -/
def opField (w : CmdWord) : BitVec 4 := w.extractLsb' 36 4
/-- `idx`, bits 35:32 (R90). -/
def idxField (w : CmdWord) : BitVec 4 := w.extractLsb' 32 4
/-- `arg`, bits 31:0 (R90). -/
def argField (w : CmdWord) : Word32 := w.extractLsb' 0 32
/-- `arg[5:0]`, the address of the bus commands (R91, R99). -/
def argAddr (w : CmdWord) : Addr := w.extractLsb' 0 6
/-- `arg[7:0]`, the power, status byte or strobe byte (R91, R99). -/
def argByte (w : CmdWord) : Byte := w.extractLsb' 0 8
/-- `arg[15:8]`, the data byte of WRREG (R91, R99). -/
def argValue (w : CmdWord) : Byte := w.extractLsb' 8 8
/-- `arg[23:16]`, the burst length (R91, R99). -/
def argLen (w : CmdWord) : Byte := w.extractLsb' 16 8

/-- The bus commands, `op` 0x8: `idx[1:0]` selects (R91). -/
def decodeBusCommand (w : CmdWord) : Instr :=
  match (w.extractLsb' 32 2).toNat with
  | 0 => .wrreg (argAddr w) (argValue w)
  | 1 => .rdreg (argAddr w)
  | 2 => .wrburst (argAddr w) (argLen w)
  | _ => .rdburst (argAddr w) (argLen w)

/-- The command decoder: total, and looks at `op`, then at `idx[1:0]` or `idx[0]` only (R91, R92, R93). -/
def decodeCommand (w : CmdWord) : Instr :=
  match (opField w).toNat with
  | 0x0 => .reserved0
  | 0x1 => .cfgw (idxField w) (argField w)
  | 0x2 => .cfgr (idxField w)
  | 0x3 => .setfreq (argField w)
  | 0x4 => .setbw (argField w)
  | 0x5 => .setdev (argField w)
  | 0x6 => .setpwr (argByte w)
  | 0x7 => .setmod
  | 0x8 => decodeBusCommand w
  | 0x9 => if w.extractLsb' 32 1 = 0#1 then .interpW (argByte w) else .interpR (argByte w)
  | 0xA => .init
  | 0xB => .beginrx
  | 0xC => .update
  | 0xD => .strobe (argByte w)
  | 0xE => .reservedE
  | _ => .reservedF

/-! ## The bus frame -/

/-- Why a bus frame is no access of the block. -/
inductive FrameError where
  /-- No byte, or a header without a payload slot (a single byte on the bus is a strobe, not a header: R95, R96). -/
  | noPayload
  /-- More payload slots than the access has (R64, R65, R71). -/
  | tooLong
  /-- A header at a status-range address that R96 says is never formed. -/
  | headerNeverFormed
deriving DecidableEq, Repr

/-- What the decoder answers. -/
inductive Decoded where
  | instr (i : Instr)
  | rejected (e : FrameError)
deriving DecidableEq, Repr

/-- Reads a header and its payload slots by bits 7:6 and the range of the address (R95, R96). The bytes in the slots
of a read are not specified (R65) and are ignored. -/
def decodeHeader (h : Byte) (payload : List Byte) : Decoded :=
  let a : Addr := h.extractLsb' 0 6
  let n := payload.length
  match (h.extractLsb' 6 2).toNat with
  | 0 =>
    if isStatus a then .rejected .headerNeverFormed
    else match payload with
      | [v] => .instr (.hdrWrite1 a v)
      | _ => .rejected .tooLong
  | 1 =>
    if isStatus a then .rejected .headerNeverFormed
    else if n ≤ 8 then .instr (.hdrWriteN a payload) else .rejected .tooLong
  | 2 =>
    if isStatus a then .rejected .headerNeverFormed
    else if n = 1 then .instr (.hdrRead1 a) else .rejected .tooLong
  | _ =>
    if isStatus a then
      (if n = 1 then .instr (.hdrReadN a 1) else .rejected .tooLong)
    else if n ≤ 255 then .instr (.hdrReadN a (BitVec.ofNat 8 n)) else .rejected .tooLong

/-- The decoder of a bus frame. -/
def decodeFrame (bytes : List Byte) : Decoded :=
  match bytes with
  | [] => .rejected .noPayload
  | [_] => .rejected .noPayload
  | h :: payload => decodeHeader h payload

/-- The decoder, total on both formats. -/
def decode (b : Bits) : Decoded :=
  match b with
  | .cmd40 w => .instr (decodeCommand w)
  | .hdr8 bytes => decodeFrame bytes

/-! ## The encoder -/

/-- A command word from its fields (R90). -/
def cmdWord (op idx : BitVec 4) (arg : Word32) : CmdWord := op ++ idx ++ arg

/-- `arg` of a single access: value in bits 15:8, address in bits 5:0 (R91). -/
def argSingle (a : Addr) (v : Byte) : Word32 := 0#16 ++ v ++ 0#2 ++ a

/-- `arg` of a burst access: length in bits 23:16, address in bits 5:0 (R91). -/
def argBurst (a : Addr) (n : Byte) : Word32 := 0#8 ++ n ++ 0#10 ++ a

/-- `arg` with one byte in bits 7:0 (R91). -/
def argOfByte (b : Byte) : Word32 := 0#24 ++ b

/-- The words of an instruction; bits the command does not name are written as zero (R92, R103), and so are the
unspecified payload slots of a read (log 22). -/
def encode (i : Instr) : Bits :=
  match i with
  | .cfgw idx v => .cmd40 (cmdWord 0x1 idx v)
  | .cfgr idx => .cmd40 (cmdWord 0x2 idx 0)
  | .setfreq hz => .cmd40 (cmdWord 0x3 0 hz)
  | .setbw hz => .cmd40 (cmdWord 0x4 0 hz)
  | .setdev hz => .cmd40 (cmdWord 0x5 0 hz)
  | .setpwr p => .cmd40 (cmdWord 0x6 0 (argOfByte p))
  | .setmod => .cmd40 (cmdWord 0x7 0 0)
  | .wrreg a v => .cmd40 (cmdWord 0x8 0x0 (argSingle a v))
  | .rdreg a => .cmd40 (cmdWord 0x8 0x1 (argSingle a 0))
  | .wrburst a n => .cmd40 (cmdWord 0x8 0x2 (argBurst a n))
  | .rdburst a n => .cmd40 (cmdWord 0x8 0x3 (argBurst a n))
  | .interpW s => .cmd40 (cmdWord 0x9 0x0 (argOfByte s))
  | .interpR s => .cmd40 (cmdWord 0x9 0x1 (argOfByte s))
  | .init => .cmd40 (cmdWord 0xA 0 0)
  | .beginrx => .cmd40 (cmdWord 0xB 0 0)
  | .update => .cmd40 (cmdWord 0xC 0 0)
  | .strobe c => .cmd40 (cmdWord 0xD 0 (argOfByte c))
  | .reserved0 => .cmd40 (cmdWord 0x0 0 0)
  | .reservedE => .cmd40 (cmdWord 0xE 0 0)
  | .reservedF => .cmd40 (cmdWord 0xF 0 0)
  | .hdrWrite1 a v => .hdr8 [0#2 ++ a, v]
  | .hdrWriteN a payload => .hdr8 ((1#2 ++ a) :: payload)
  | .hdrRead1 a => .hdr8 [2#2 ++ a, 0]
  | .hdrReadN a n => .hdr8 ((3#2 ++ a) :: List.replicate n.toNat 0)

/-! ## The opcode table's words -/

/-- An opcode-table word of `nbits` bits as the hardware carries it: a 40-bit word on the host port, or an 8-bit
header on the bus followed by one payload slot of zeros (log 22). -/
def tableBits (nbits w : Nat) : Option Bits :=
  if nbits = 40 then some (.cmd40 (BitVec.ofNat 40 w))
  else if nbits = 8 then some (.hdr8 [BitVec.ofNat 8 w, 0])
  else none

/-- The instruction the decoder reads from an opcode-table word. -/
def decodeTableWord (nbits w : Nat) : Option Instr :=
  match tableBits nbits w with
  | none => none
  | some b =>
    match decode b with
    | .instr i => some i
    | .rejected _ => none

end Sys2Proof
end

