-- ==== Sys2Proof/Machine/State.lean ====
section
/-! DEFINITION. The state of the RPE-SI block (10_state.md R20 to R46), the events of its output trace (R40), the
environment's undecided and decided inputs, the ways a step can stop, and the state after reset (R45, R350). -/

namespace Sys2Proof.Machine

/-! ## Codes -/

/-- `CTL_STATE.STATE` (R35). -/
inductive CtlState where
  | uninitialized | resetting | configLoading | verifying | idleReady | receiving | faulted
deriving DecidableEq, Repr

/-- The fatal fault codes (R310). -/
inductive FatalCode where
  | illegalCommand | invalidModulation | paTableLength | busFailure | verifyFail | freqWordOverflow
  | badOscillator | carrierUnset
deriving DecidableEq, Repr

/-- The local error codes a command ends with (R311); the code `Fatal` (0x0F) is written by fatal fault entry. -/
inductive LocalError where
  | refused | busFailure | burstRejected | statusWriteRejected | badLength | rxEntryFail | timeout | cfgIllegal
deriving DecidableEq, Repr

/-! ## The output trace (R40) -/

/-- An oracle answer `(ok, status, data)` (R12). -/
structure Answer where
  ok : Bool
  status : Byte
  data : List Byte
deriving DecidableEq, Repr

/-- The kind of a bus exchange (R40). -/
inductive BusKind where
  | strobe | write1 | read1 | writeN | readN
deriving DecidableEq, Repr

/-- A raw line operation of the reset sequence (R40, R253). -/
inductive LineOp where
  | clockSet (level : Bool)
  | dataOutSet (level : Bool)
  | csAssert
  | csDeassert
  | dataInRead (level : Bool)
deriving DecidableEq, Repr

/-- Where delivered bytes come from (R40). -/
inductive DataSrc where
  | drain | rdburst
deriving DecidableEq, Repr

/-- What a log event says (R40, R228, R260). -/
inductive LogItem where
  | state (st : ChipState)
  | rxEntryFail
deriving DecidableEq, Repr

/-- A request to the GPIO collaborator (R40, R259). -/
inductive GpioOp where
  | armInterrupt (policy : BitVec 2)
  | installHandler
deriving DecidableEq, Repr

/-- An event of `TRACE` (R40). -/
inductive Event where
  | bus (kind : BusKind) (header : Byte) (sent : List Byte) (answer : Answer)
  | line (op : LineOp)
  | delay (us : Nat)
  | data (src : DataSrc) (bytes : List Byte)
  | log (what : LogItem)
  | ctl (s : CtlState)
  | gpio (op : GpioOp)
deriving DecidableEq, Repr

/-! ## The environment -/

/-- An edge on the receive-data pin (R29, R319). -/
inductive Edge where
  | rising | falling
deriving DecidableEq, Repr

/-- What is presented to the block, in order (log 16). -/
inductive Input where
  /-- Words on the host port or on the bus port. -/
  | words (b : Bits)
  /-- An edge on the receive-data pin (R319). -/
  | edge (e : Edge)
  /-- Power-on of the block (R350). -/
  | powerOn
deriving DecidableEq, Repr

/-- The environment's decided inputs, and the counter for what it has not decided: the MODEL's own fields, plain data
in place of the oracle (R12, ID5; log 11, 13, 14, 16). -/
structure Env where
  /-- What will be presented to the block, next first. -/
  inputs : List Input
  /-- The answers to the next exchanges, next first. -/
  answers : List Answer
  /-- The next levels of the data-in line, next first. -/
  levels : List Bool
  /-- For each UPDATE that waits: does an edge come before the timeout? Next first. -/
  waits : List Bool
  /-- The counter that free values are applied to. -/
  fresh : Nat
deriving DecidableEq, Repr

/-! ## The state -/

/-- DOC0's DeviceState (R31 to R34). -/
structure DevState where
  /-- `ST_OSC_HZ`; `none` is the valid flag `OSCV` at 0 (R31). -/
  oscHz : Option Word32
  /-- `ST_FREQ_HZ`; `none` is the valid flag `FRQV` at 0 (R32). -/
  freqHz : Option Word32
  /-- `ST_PASEL` (R33). -/
  paSel : BitVec 2
  /-- `PA_BUF[0..7]` (R34). -/
  paBuf : Vector Byte 8
deriving DecidableEq, Repr

/-- The whole state: the architectural state of R20, the completion flag, the armed edge policy, and the model's own
`cfg` and `env`. -/
structure State where
  /-- The parameters of R5 to R9: not machine state (R46), never changed by a step (log 1). -/
  cfg : Config
  /-- The eight `CFG_*` registers (R23 to R30). -/
  radio : RadioConfig
  /-- `ST_OSC_HZ`, `ST_FREQ_HZ`, `ST_PASEL`, `PA_BUF` (R31 to R34). -/
  dev : DevState
  /-- `CTL_STATE.STATE` (R35). -/
  ctl : CtlState
  /-- `FAULT` (R36). -/
  fault : Byte
  /-- `RES` (R37). -/
  res : Word32
  /-- The `ok` flag of the last completion (R22, R41; log 17). -/
  ok : Bool
  /-- `IRQ_ARMED` (R38). -/
  irqArmed : Bool
  /-- The edge policy as sampled by the last BEGINRX (R319; log 18). -/
  irqPolicy : BitVec 2
  /-- The number of entries in `NQ` (R38). -/
  nq : Nat
  /-- `TRACE`, oldest first (R40). -/
  trace : List Event
  /-- The environment (log 11). -/
  env : Env
deriving DecidableEq, Repr

/-! ## How a step can stop -/

/-- The faults of the model. A fatal fault of the block is NOT one of these: its entry is a next state (R313). -/
inductive Fault where
  /-- INIT's ready-wait never reads the data-in line low: the command does not end, the fourth outcome of R11
  (R253, R366, ID6). Raised by INIT only. Safe: the block makes no further observable progress either (log 13). -/
  | hang
deriving DecidableEq, Repr

/-- The refusals of the model. A refused command of the block is NOT one of these: it is a next state (R317). -/
inductive Refusal where
  /-- An instruction that has no meaning yet: raised by no arm of `exec`. Safe. -/
  | notModelled (mnemonic : String)
  /-- The frame presented to the bus port is no access the block forms (R95, R96); raised by `step` alone, when the
  decoder rejects. Safe: the command engine never presents such a frame (log 21, 22). -/
  | badFrame (e : FrameError)
deriving DecidableEq, Repr

/-! ## Reset -/

/-- The eight `CFG_*` registers after reset (R45): the oscillator's default, everything else 0. -/
def resetRadio : RadioConfig :=
  { oscHz := BitVec.ofNat 32 oscDefaultHz, freqHz := 0, bwHz := 0, devHz := 0, pwrDbm := 0, modem := 0, pkt := 0,
    edge := 0 }

/-- DeviceState after reset (R45): no oscillator, no carrier, selector 0, buffer zero. -/
def resetDev : DevState :=
  { oscHz := none, freqHz := none, paSel := 0, paBuf := #v[0, 0, 0, 0, 0, 0, 0, 0] }

/-- An environment that has decided nothing (log 11, 13, 14, 16: DESIGN CHOICE). -/
def emptyEnv : Env := { inputs := [], answers := [], levels := [], waits := [], fresh := 0 }

/-- The block after reset with a given configuration and environment (R350). -/
def State.resetOf (c : Config) (e : Env) : State :=
  { cfg := c
    radio := resetRadio
    dev := resetDev
    ctl := .uninitialized
    fault := 0
    res := 0
    ok := false
    irqArmed := false
    irqPolicy := 0
    nq := 0
    trace := []
    env := e }

/-- The block after reset with the suggested configuration (R45, R350; logs 1 to 8). -/
def State.reset : State := State.resetOf Config.suggested emptyEnv

/-- A configuration is refused when it is built: no machine exists with an ill-formed one (ID7, R254, R352). -/
def State.resetWith (c : Config) : Option State :=
  if c.wf then some (State.resetOf c emptyEnv) else none

end Sys2Proof.Machine
end

