-- ==== Sys2Proof/Machine/Flags.lean ====
section
/-! DEFINITION. What plays the part of flags (10_state.md R41): the `CTL_STATE` register assembled from the state and
its four flags (R35), the two fields of a status byte (30_encoding.md R97, R98), and the code numbers of the
controller states, faults, local errors and interpreter actions. -/

namespace Sys2Proof.Machine

/-- The code of `CTL_STATE.STATE` (R35). -/
def CtlState.code : CtlState → BitVec 3
  | .uninitialized => 0
  | .resetting => 1
  | .configLoading => 2
  | .verifying => 3
  | .idleReady => 4
  | .receiving => 5
  | .faulted => 6

/-- The code latched in `FAULT` (R310). -/
def FatalCode.code : FatalCode → Byte
  | .illegalCommand => 1
  | .invalidModulation => 2
  | .paTableLength => 3
  | .busFailure => 4
  | .verifyFail => 5
  | .freqWordOverflow => 6
  | .badOscillator => 7
  | .carrierUnset => 8

/-- The code a local failure leaves in `RES[7:0]`, zero above (R311). -/
def LocalError.code : LocalError → Word32
  | .refused => 0x01
  | .busFailure => 0x02
  | .burstRejected => 0x03
  | .statusWriteRejected => 0x04
  | .badLength => 0x05
  | .rxEntryFail => 0x06
  | .timeout => 0x07
  | .cfgIllegal => 0x08

/-- What a command that raised a fatal fault leaves in `RES` (R37, R311, R313). -/
def fatalRes : Word32 := 0x0000000F

/-- `OSCV`, the valid flag of `ST_OSC_HZ` (R31, R35). -/
def State.oscv (s : State) : Bool := s.dev.oscHz.isSome

/-- `FRQV`, the valid flag of `ST_FREQ_HZ` (R32, R35). -/
def State.frqv (s : State) : Bool := s.dev.freqHz.isSome

/-- `NQF`: the notification queue holds an entry (R35, R322). -/
def State.nqf (s : State) : Bool := decide (s.nq ≠ 0)

/-- `CTL_STATE` (R35): `NQF` 7, `ARMED` 6, `FRQV` 5, `OSCV` 4, a zero, `STATE` 2:0. -/
def State.ctlWord (s : State) : Byte :=
  BitVec.ofBool s.nqf ++ BitVec.ofBool s.irqArmed ++ BitVec.ofBool s.frqv ++ BitVec.ofBool s.oscv ++ 0#1 ++ s.ctl.code

/-- `count = s & 0x0F` (R97). -/
def statusCount (status : Byte) : BitVec 4 := status.extractLsb' 0 4

/-- The state code `(s >> 4) & 0x07` (R97). -/
def statusCode (status : Byte) : BitVec 3 := status.extractLsb' 4 3

/-- The chip state of a status byte, `STATE_MAP` of its code (R98, R221). -/
def chipState (c : Config) (status : Byte) : ChipState := c.stateMap.get (statusCode status).toFin

end Sys2Proof.Machine
end

