-- ==== Sys2Proof/Machine/Codec.lean ====
section
/-! DEFINITION. DOC0's RegisterCodec: the five pure encoders (40_frequency.md R121 to R126, 41_bandwidth.md R141 to
R145, 42_deviation.md R161 to R165, 43_power.md R182 to R184, 44_modulation.md R203 to R206), in exact arithmetic
(00_scope.md R14, 49_laws.md R390, R391). -/

namespace Sys2Proof.Machine

/-! ## Frequency -/

/-- `Clamp(f)` (R121). -/
def clampHz (f : Nat) : Nat := min (max f freqMinHz) freqMaxHz

/-- `EncFreq(fc, osc)` in the integer form of R122: `fc / (osc / 65536)`, an exact half rounding up. A zero
oscillator, which R122 does not define, gives a free value (log 24). -/
def encFreq (fc osc : Nat) : Nat :=
  if osc = 0 then Config.freqWordNoOsc fc else (2 * fc * freqDiv + osc) / (2 * osc)

/-- R126: the word does not fit the 22 bits that DOC0 promises. -/
def freqOverflow (w : Nat) : Bool := decide (2 ^ 22 ≤ w)

/-- `FREQ0 = W[7:0]` (R123). -/
def freqByte0 (w : Nat) : Byte := (BitVec.ofNat 24 w).extractLsb' 0 8
/-- `FREQ1 = W[15:8]` (R123). -/
def freqByte1 (w : Nat) : Byte := (BitVec.ofNat 24 w).extractLsb' 8 8
/-- `FREQ2 = W[23:16]` (R123). -/
def freqByte2 (w : Nat) : Byte := (BitVec.ofNat 24 w).extractLsb' 16 8

/-! ## The shared selection rule -/

/-- "First candidate strictly below the target" at or after `start` (R143). -/
def firstBelow (table : List Rat) (start : Nat) (t : Rat) : Option Nat :=
  ((table.drop start).findIdx? (fun x => decide (x < t))).map (· + start)

/-- `NearestSelect(T, n, start, t)` (R143), `n` the length of the table; a tie goes to the predecessor. -/
def nearestSelect (table : List Rat) (start : Nat) (t : Rat) : Nat :=
  match firstBelow table start t with
  | none => table.length - 1
  | some 0 => 0
  | some (p + 1) => if |t - table.getD p 0| ≤ |t - table.getD (p + 1) 0| then p else p + 1

/-! ## Filter bandwidth -/

/-- `BwCand(e, m, osc)`, hertz (R141). -/
def bwCand (e m osc : Nat) : Rat := (osc : Rat) / (8 * (4 + m) * 2 ^ e)

/-- The 16 candidates in scan order, `i = 4 e + m` (R142; conflict C3). -/
def bwTable (osc : Nat) : List Rat := (List.range 16).map (fun i => bwCand (i / 4) (i % 4) osc)

/-- `EncBw(t, osc)` (R144). -/
def encBw (t osc : Nat) : Nat := nearestSelect (bwTable osc) 0 (t : Rat)

/-- `Merge4(i, old)` (R145). -/
def merge4 (i : Nat) (old : Byte) : Byte := (BitVec.ofNat 8 i <<< 4) ||| (old &&& 0x0F#8)

/-! ## Deviation -/

/-- `DevCand(m, e, osc)`, hertz: the first column multiplies, the others divide, as observed (R161). -/
def devCand (m e osc : Nat) : Rat :=
  if e = 0 then (osc : Rat) / devDiv * (8 + m) else (osc : Rat) / devDiv / ((8 + m) * 2 ^ e)

/-- The default `DEV_TABLE`, `k = 7 m + e` (R162). -/
def devFormulaTable (osc : Nat) : List Rat := (List.range 56).map (fun k => devCand (k / 7) (k % 7) osc)

/-- `DEV_TABLE[0..55]` of a configuration (R6, R167). -/
def devTableOf (d : DevTable) (osc : Nat) : List Rat :=
  match d with
  | .formula => devFormulaTable osc
  | .entries t => t
  | .external => (List.finRange 56).map (fun k => ((Config.devTableExternal osc k : NNRat) : Rat))

/-- `EncDev(t)`, scanning from index 1 (R163), the target in hertz (R164). -/
def encDev (d : DevTable) (t osc : Nat) : Nat := nearestSelect (devTableOf d osc) 1 (t : Rat)

/-- `DevByte(k)` (R165). -/
def devByte (k : Nat) : Byte := (BitVec.ofNat 8 (k % 7) <<< 4) ||| BitVec.ofNat 8 (k / 7)

/-! ## Output power -/

/-- `Band(f)`, hertz (R182). -/
def band (f : Nat) : Fin 4 :=
  if f ≤ 348000000 then 0 else if f ≤ 464000000 then 1 else if f ≤ 880000000 then 2 else 3

/-- The breakpoint list of a band (R183). -/
def paBreakpoints (b : Fin 4) : List Int := if b.val ≤ 1 then paBp8 else paBp10

/-- `PaLen(b)` (R184). -/
def paLen (b : Fin 4) : Nat := if b.val ≤ 1 then 8 else 10

/-- `PaIndex(b, dbm)`: the least index whose breakpoint is at or above the power, the last entry otherwise (R183). -/
def paIndex (b : Fin 4) (dbm : Int) : Nat := (paBreakpoints b).findIdx (fun x => decide (dbm ≤ x))

/-! ## Modulation -/

/-- The code of on/off keying (R201). -/
def modOok : BitVec 3 := 0b011

/-- The code of 4-level FSK (R201). -/
def mod4fsk : BitVec 3 := 0b100

/-- The three reserved codes (R202; conflict C2). -/
def modReserved (m : BitVec 3) : Bool := m == 0b010 || m == 0b101 || m == 0b110

/-- The Manchester bit of the output: off for 4-level FSK (R204). -/
def manchOut (mod : BitVec 3) (manch : BitVec 1) : BitVec 1 := if mod = mod4fsk then 0 else manch

/-- `Mdmcfg2(dcoff, mod, manch, sync)` under a layout (R203). -/
def mdmcfg2Byte (l : Mdmcfg2Layout) (dcoff : BitVec 1) (mod : BitVec 3) (manch : BitVec 1) (sync : BitVec 3) : Byte :=
  (dcoff.setWidth 8 <<< l.dcoff) ||| (mod.setWidth 8 <<< l.mod) ||| (manch.setWidth 8 <<< l.manch)
    ||| (sync.setWidth 8 <<< l.sync)

/-- `PaSlotBit(fe, mod)` with the bit at position `p` (R206). -/
def paSlotBit (p : Fin 8) (fe : Byte) (mod : BitVec 3) : Byte :=
  if mod = modOok then fe ||| (1#8 <<< p.val) else fe &&& ~~~(1#8 <<< p.val)

end Sys2Proof.Machine
end

