-- ==== Sys2Proof/Machine/Operands.lean ====
section
/-! DEFINITION. Operand forms: the fields of the configuration registers (10_state.md R27, R28), the control register
index space (R44, 48_config_access.md R300, R301), the packet parameter functions (00_scope.md R9), `RECONCILE` (R230)
and the access checks on addresses and lengths (20_memory.md R68). -/

namespace Sys2Proof.Machine

/-! ## Fields of CFG_MODEM (R27) -/

/-- `CFG_MODEM.MOD`. -/
def modField (modem : Byte) : BitVec 3 := modem.extractLsb' 0 3
/-- `CFG_MODEM.MANCH`. -/
def manchField (modem : Byte) : BitVec 1 := modem.extractLsb' 3 1
/-- `CFG_MODEM.DCOFF`. -/
def dcoffField (modem : Byte) : BitVec 1 := modem.extractLsb' 4 1
/-- `CFG_MODEM.SYNC`. -/
def syncField (modem : Byte) : BitVec 3 := modem.extractLsb' 5 3

/-- Is the configured modulation on/off keying (R185, R255)? -/
def isOok (modem : Byte) : Bool := modField modem == modOok

/-! ## Fields of CFG_PKT (R28) -/

/-- A field of `CFG_PKT`, zero-extended to a byte. -/
def pktFieldOf (pkt : BitVec 9) : PktField → Byte
  | .pktfmt => (pkt.extractLsb' 0 2).setWidth 8
  | .lenmode => (pkt.extractLsb' 2 2).setWidth 8
  | .crcen => (pkt.extractLsb' 4 1).setWidth 8
  | .crcaf => (pkt.extractLsb' 5 1).setWidth 8
  | .adrchk => (pkt.extractLsb' 6 2).setWidth 8
  | .append => (pkt.extractLsb' 8 1).setWidth 8

/-- The byte of a described packet write: `base` with each field at its shift. -/
def pktWriteByte (pkt : BitVec 9) (w : PktWrite) : Byte :=
  w.fields.foldl (fun b f => b ||| (pktFieldOf pkt f.1 <<< f.2)) w.base

/-- The writes of a described packet function. -/
def pktWrites (ws : List PktWrite) (r : RadioConfig) : List (Addr × Byte) :=
  ws.map (fun w => (w.addr, pktWriteByte r.pkt w))

/-- `PKT_PRE(cfg)` (R9, R254 step 2). -/
def pktPreOf (c : Config) (r : RadioConfig) : List (Addr × Byte) :=
  match c.pktPre with
  | .writes ws => pktWrites ws r
  | .external => (Config.pktPreExternal r).map (fun p => (p.1.val, p.2))

/-- `PKT_POST(cfg)` (R9, R254 step 8). -/
def pktPostOf (c : Config) (r : RadioConfig) : List (Addr × Byte) :=
  match c.pktPost with
  | .writes ws => pktWrites ws r
  | .external => (Config.pktPostExternal r).map (fun p => (p.1.val, p.2))

/-! ## The oscillator and the drain count -/

/-- `ST_OSC_HZ` as the encoders read it. While it holds no value no rule reads it (R31); the model then has a free
value there (log 24). -/
def State.oscNat (s : State) : Nat :=
  match s.dev.oscHz with
  | some v => v.toNat
  | none => Config.unsetOscHz

/-- `RECONCILE(r, l)` of a configuration (R230). -/
def reconcileOf (c : Config) (r : Byte) (l : BitVec 4) : Nat :=
  match c.reconcile with
  | .default => if l = 15#4 then r.toNat else min r.toNat l.toNat
  | .external => (Config.reconcileExternal r l).toNat

/-- The number of bytes a drain reads: `RECONCILE(r & RXBYTES_MASK, s1 & 0x0F)` (R229). -/
def drainCount (c : Config) (r status : Byte) : Nat := reconcileOf c (r &&& c.rxbytesMask) (statusCount status)

/-! ## The control register index space -/

/-- `ST_PA_LO` (R34, R44). -/
def State.paLo (s : State) : Word32 := s.dev.paBuf[3] ++ s.dev.paBuf[2] ++ s.dev.paBuf[1] ++ s.dev.paBuf[0]

/-- `ST_PA_HI` (R34, R44). -/
def State.paHi (s : State) : Word32 := s.dev.paBuf[7] ++ s.dev.paBuf[6] ++ s.dev.paBuf[5] ++ s.dev.paBuf[4]

/-- The value CFGR returns for an index (R301). -/
def State.csrRead (s : State) (i : CsrIdx) : Word32 :=
  match i.toNat with
  | 0 => s.radio.oscHz
  | 1 => s.radio.freqHz
  | 2 => s.radio.bwHz
  | 3 => s.radio.devHz
  | 4 => s.radio.pwrDbm.signExtend 32
  | 5 => s.radio.modem.setWidth 32
  | 6 => s.radio.pkt.setWidth 32
  | 7 => s.radio.edge.setWidth 32
  | 8 => s.dev.oscHz.getD 0
  | 9 => s.dev.freqHz.getD 0
  | 10 => s.dev.paSel.setWidth 32
  | 11 => s.paLo
  | 12 => s.paHi
  | 13 => s.ctlWord.setWidth 32
  | 14 => s.fault.setWidth 32
  | _ => s.res

/-- CFGW's operand checks, in order: a read-only index, then the reserved edge policy (R29, R300). -/
def csrWriteCheck (i : CsrIdx) (v : Word32) : Option LocalError :=
  if 8 ≤ i.toNat then some .cfgIllegal
  else if i = 7 ∧ v.extractLsb' 0 2 = 3#2 then some .cfgIllegal
  else none

/-- The width of a writable control register (R300). -/
def csrWidth (i : CsrIdx) : Nat :=
  match i.toNat with
  | 0 | 1 | 2 | 3 => 32
  | 4 | 5 => 8
  | 6 => 9
  | _ => 2

/-- `arg[w-1:0]`, zero-extended (R300). -/
def csrTrim (i : CsrIdx) (v : Word32) : Word32 := (v.setWidth (csrWidth i)).setWidth 32

/-- `csr[idx] <- arg[w-1:0]` for the eight writable registers (R300). -/
def radioWrite (r : RadioConfig) (i : CsrIdx) (v : Word32) : RadioConfig :=
  match i.toNat with
  | 0 => { r with oscHz := v }
  | 1 => { r with freqHz := v }
  | 2 => { r with bwHz := v }
  | 3 => { r with devHz := v }
  | 4 => { r with pwrDbm := v.setWidth 8 }
  | 5 => { r with modem := v.setWidth 8 }
  | 6 => { r with pkt := v.setWidth 9 }
  | 7 => { r with edge := v.setWidth 2 }
  | _ => r

/-! ## Access checks (R68), made before any exchange -/

/-- The checks of a burst of `n` bytes, at most `max`, starting at `a`: address first, then length (R68, R287). -/
def burstCheck (a : Addr) (n : Byte) (max : Nat) : Option LocalError :=
  if isStatus a then some .burstRejected
  else if n = 0 ∨ max < n.toNat then some .badLength
  else none

/-- The check of a single write (R68). -/
def writeCheck (a : Addr) : Option LocalError := if isStatus a then some .statusWriteRejected else none

end Sys2Proof.Machine
end

