-- ==== Sys2Proof/Machine/Ops.lean ====
section
/-! DEFINITION. The named operations: register updates, completion and fatal fault entry (60_exceptions.md R313), the
oracle (00_scope.md R12), the bus primitives (20_memory.md R63 to R67), the status interpreter with its drain and
flush (45_status_interpreter.md R226 to R233), the interrupt step (R319 to R321) and power-on (R350). -/

namespace Sys2Proof.Machine

/-! ## Updates -/

/-- `emit E` (R16, R40). -/
def State.emit (s : State) (e : Event) : State := { s with trace := s.trace ++ [e] }

/-- `CTL_STATE <- c`: every write of the field appends its event (R40, R265). -/
def State.setCtl (s : State) (c : CtlState) : State := { s with ctl := c, trace := s.trace ++ [.ctl c] }

/-- `ST_OSC_HZ` takes a value and `OSCV` is set (R31, R252). -/
def State.setOsc (s : State) (v : Word32) : State := { s with dev := { s.dev with oscHz := some v } }

/-- `ST_FREQ_HZ` takes a value and `FRQV` is set (R32, R124). -/
def State.setFreq (s : State) (v : Word32) : State := { s with dev := { s.dev with freqHz := some v } }

/-- SETPWR's staging: `ST_PASEL`, `PA_BUF[0]` and `PA_BUF[1]` (R182, R185). -/
def State.stagePa (s : State) (b : Fin 4) (slot0 slot1 : Byte) : State :=
  { s with dev := { s.dev with paSel := BitVec.ofNat 2 b.val, paBuf := (s.dev.paBuf.set 0 slot0).set 1 slot1 } }

/-- The configuration record is replaced (R300). -/
def State.setRadio (s : State) (r : RadioConfig) : State := { s with radio := r }

/-- The interrupt is armed with an edge policy (R259, R319). -/
def State.arm (s : State) (policy : BitVec 2) : State := { s with irqArmed := true, irqPolicy := policy }

/-- The number of entries in `NQ` (R38). -/
def State.setNq (s : State) (n : Nat) : State := { s with nq := n }

/-- What the environment has still decided. -/
def State.setEnv (s : State) (e : Env) : State := { s with env := e }

/-- A command completes: `Done(ok, v)` (R11, R37). -/
def State.complete (s : State) (ok : Bool) (v : Word32) : State := { s with ok := ok, res := v }

/-! ## Taking an exception -/

/-- FATAL FAULT ENTRY, `raise Fatal(code)` (R313), in its order: `FAULT <- code`; `CTL_STATE.STATE <- Faulted` with its
event; `RES <- 0xF`; the command ends with `ok = 0`. Nothing is saved and control goes nowhere. There is no return
from it: only power-on leaves Faulted (R314). -/
def State.raiseFatal (s : State) (c : FatalCode) : State :=
  ({ s with fault := c.code }.setCtl .faulted).complete false fatalRes

/-- The return to Uninitialized: power-on of the block, every piece of block state at its reset value, the parameters
and the environment as they are (R265 last row, R350). -/
def State.powerOn (s : State) : State := State.resetOf s.cfg s.env

/-! ## How a command's pseudocode ends -/

/-- Why a procedure stops before its end. -/
inductive Stop where
  /-- `return Done(0, e)`. -/
  | fail (e : LocalError)
  /-- `raise Fatal(c)`. -/
  | fatal (c : FatalCode)
  /-- It never ends (R11, R366). -/
  | hang
deriving DecidableEq, Repr

/-- A procedure either goes on with a value or has stopped, in a state. -/
inductive Run (α : Type) where
  | go (a : α) (s : State)
  | stop (w : Stop) (s : State)
deriving DecidableEq, Repr

/-- Sequencing: what follows runs only when the procedure went on. -/
def Run.bind {α β : Type} (r : Run α) (f : α → State → Run β) : Run β :=
  match r with
  | .go a s => f a s
  | .stop w s => .stop w s

/-- The state a procedure leaves. -/
def Run.state {α : Type} (r : Run α) : State :=
  match r with
  | .go _ s => s
  | .stop _ s => s

/-- Inside INIT a local failure is fatal: `if it ends Done(0, _) raise Fatal(BusFailure)` (R250, R256). -/
def Run.fatalOnFail {α : Type} (r : Run α) : Run α :=
  match r with
  | .stop (.fail _) s => .stop (.fatal .busFailure) s
  | .stop (.fatal c) s => .stop (.fatal c) s
  | .stop .hang s => .stop .hang s
  | .go a s => .go a s

/-- The end of a command: its completion, its fatal fault entry, or the hang (R11). -/
def finish (r : Run Word32) : Host.Outcome State Fault Refusal :=
  match r with
  | .go v s => .next (s.complete true v)
  | .stop (.fail e) s => .next (s.complete false e.code)
  | .stop (.fatal c) s => .next (s.raiseFatal c)
  | .stop .hang _ => .fault .hang

/-! ## Admission (R316) -/

/-- The rows of the admission table. -/
inductive CmdGroup where
  /-- CFGR. -/
  | cfgr
  /-- CFGW. -/
  | cfgw
  /-- INIT. -/
  | init
  /-- The SET commands, the bus access commands, INTERP and UPDATE. -/
  | radio
  /-- BEGINRX. -/
  | beginrx
deriving DecidableEq, Repr

/-- The admission table (R316). In the three transient states, which never see a command, only CFGR is admitted
(R301 "every CTL_STATE"; log 23). -/
def admits : CmdGroup → CtlState → Bool
  | .cfgr, _ => true
  | .cfgw, c => c == .uninitialized || c == .idleReady || c == .receiving
  | .init, c => c == .uninitialized
  | .radio, c => c == .idleReady || c == .receiving
  | .beginrx, c => c == .idleReady

/-- A refusal: `RES <- 1`, `ok = 0`, no other effect (R317). -/
def State.refuse (s : State) : State := s.complete false LocalError.refused.code

/-- A command: refused by the admission table, or run to its end (R315, R316). -/
def runCmd (g : CmdGroup) (body : State → Run Word32) (s : State) : Host.Outcome State Fault Refusal :=
  if admits g s.ctl then finish (body s) else .next s.refuse

/-- A command word with a reserved `op`: refused in Faulted, a fatal fault everywhere else (R93, R316). -/
def runReserved (s : State) : Host.Outcome State Fault Refusal :=
  if s.ctl = .faulted then .next s.refuse else .next (s.raiseFatal .illegalCommand)

/-! ## The oracle (R12) -/

/-- Exactly `n` data bytes: those the answer brings, and free values where it brings fewer (log 12). -/
def Env.fitData (e : Env) (n : Nat) (given : List Byte) : List Byte :=
  (List.range n).map (fun i => given.getD i (Config.freeByte e.fresh i))

/-- The answer to the next exchange, with `n` data bytes: the one the environment has decided, else a free one. -/
def Env.nextAnswer (e : Env) (n : Nat) : Answer :=
  match e.answers with
  | [] => { ok := Config.freeOk e.fresh, status := Config.freeStatus e.fresh, data := e.fitData n [] }
  | a :: _ => { a with data := e.fitData n a.data }

/-- The environment after an answer. -/
def Env.afterAnswer (e : Env) : Env := { e with answers := e.answers.tail, fresh := e.fresh + 1 }

/-! ## The bus primitives, not interpreted -/

/-- One exchange: the oracle answers, and one `Bus` event is appended (R62). -/
def exchange (k : BusKind) (header : Byte) (sent : List Byte) (n : Nat) (s : State) : Answer × State :=
  (s.env.nextAnswer n, (s.setEnv s.env.afterAnswer).emit (.bus k header sent (s.env.nextAnswer n)))

/-- `BusStrobe(c)` (R63). -/
def rawStrobe (c : Byte) (s : State) : Answer × State := exchange .strobe c [] 0 s
/-- `BusWrite1(a, v)` (R64). -/
def rawWrite1 (a : Addr) (v : Byte) (s : State) : Answer × State := exchange .write1 (hdr 0 0 a) [v] 0 s
/-- `BusRead1(a)` (R65). -/
def rawRead1 (a : Addr) (s : State) : Answer × State := exchange .read1 (hdr 1 0 a) [] 1 s
/-- `BusWriteN(a, payload)` (R66). -/
def rawWriteN (a : Addr) (payload : List Byte) (s : State) : Answer × State :=
  exchange .writeN (hdr 0 1 a) payload 0 s
/-- `BusReadN(a, n)` (R67). -/
def rawReadN (a : Addr) (n : Nat) (s : State) : Answer × State := exchange .readN (hdr 1 1 a) [] n s

/-- The one byte that a single read delivered. -/
def Answer.byte (a : Answer) : Byte := a.data.getD 0 0

/-! ## The status interpreter -/

/-- The trigger kind (R220). -/
inductive Trigger where
  | read | write
deriving DecidableEq, Repr

/-- The action code `act` (R226). -/
inductive Act where
  | none | log | drain | drainFlush
deriving DecidableEq, Repr

/-- The number of an action (R226). -/
def Act.code : Act → Word32
  | .none => 0
  | .log => 1
  | .drain => 2
  | .drainFlush => 3

/-- `Drain()` (R229): the byte count, reconciled, then one burst read of the FIFO, whose bytes go to the host. Its
exchanges are not interpreted (R232). -/
def drain (s : State) : Run Unit :=
  let c := rawRead1 s.cfg.reg.rxbytes s
  if c.1.ok then
    let n := drainCount s.cfg c.1.byte c.1.status
    if 0 < n then
      let f := rawReadN s.cfg.reg.rxfifo n c.2
      if f.1.ok then .go () (f.2.emit (.data .drain f.1.data)) else .stop (.fail .busFailure) f.2
    else .go () c.2
  else .stop (.fail .busFailure) c.2

/-- `Flush()` (R231), not interpreted (R232). -/
def flush (s : State) : Run Unit :=
  let f := rawStrobe s.cfg.stb.sfrx s
  if f.1.ok then .go () f.2 else .stop (.fail .busFailure) f.2

/-- `Interp(s, trig)` (R226, R227). A failed exchange inside it ends the command that triggered it as if that
command's own exchange had failed (R233). -/
def interp (status : Byte) (trig : Trigger) (s : State) : Run Act :=
  match chipState s.cfg status with
  | .rxFifoOverflow => (drain s).bind fun _ s1 => (flush s1).bind fun _ s2 => .go .drainFlush s2
  | .txFifoOverflow => .go .none s
  | .rx =>
    if statusCount status ≠ 0 ∧ trig = .read then (drain s).bind fun _ s1 => .go .drain s1
    else .go .none s
  | .idle => .go .none s
  | .tx => .go .log (s.emit (.log (.state .tx)))
  | .calibrate => .go .log (s.emit (.log (.state .calibrate)))
  | .settling => .go .log (s.emit (.log (.state .settling)))
  | .rxAbort => .go .log (s.emit (.log (.state .rxAbort)))

/-! ## The bus primitives as commands use them: interpreted (R17, R220), ending the command on a failure (R78, R312) -/

/-- The implicit step after an exchange: a failed one stops the command, a successful one is interpreted. -/
def interpreted (trig : Trigger) (x : Answer × State) : Run Answer :=
  if x.1.ok then (interp x.1.status trig x.2).bind fun _ s => .go x.1 s else .stop (.fail .busFailure) x.2

/-- `BusStrobe(c) /*I*/` (R63). -/
def busStrobe (c : Byte) (s : State) : Run Answer := interpreted .write (rawStrobe c s)
/-- `BusWrite1(a, v) /*I*/` (R64). -/
def busWrite1 (a : Addr) (v : Byte) (s : State) : Run Answer := interpreted .write (rawWrite1 a v s)
/-- `BusRead1(a) /*I*/` (R65). -/
def busRead1 (a : Addr) (s : State) : Run Answer := interpreted .read (rawRead1 a s)
/-- `BusWriteN(a, payload) /*I*/` (R66). -/
def busWriteN (a : Addr) (payload : List Byte) (s : State) : Run Answer := interpreted .write (rawWriteN a payload s)
/-- `BusReadN(a, n) /*I*/` (R67). -/
def busReadN (a : Addr) (n : Nat) (s : State) : Run Answer := interpreted .read (rawReadN a n s)

/-! ## The interrupt context -/

/-- Is an edge of the configured policy: 0 rising, 1 falling, 2 any; the reserved value matches none (R29, R319;
log 19). -/
def edgeMatches (policy : BitVec 2) (e : Edge) : Bool :=
  policy == 2 || (policy == 0 && e == .rising) || (policy == 1 && e == .falling)

/-- A non-blocking post to `NQ`: dropped when the queue is full (R319, R321). -/
def State.post (s : State) : State := if s.nq < queueDepth then s.setNq (s.nq + 1) else s

/-- One entry is taken from `NQ` (R263, R322). -/
def State.takeNotification (s : State) : State := s.setNq (s.nq - 1)

/-- The interrupt step: an edge of the armed policy posts, any other does nothing (R319, R320). -/
def State.interrupt (s : State) (e : Edge) : State :=
  if s.irqArmed ∧ edgeMatches s.irqPolicy e then s.post else s

end Sys2Proof.Machine
end

