-- ==== Sys2Proof/Machine/Bus.lean ====
section
/-! DEFINITION. The bus access commands WRREG, RDREG, WRBURST, RDBURST, STROBE (47_bus_access.md R280 to R287). -/

namespace Sys2Proof.Machine

/-- WRREG's pseudocode (R281). -/
def wrregBody (a : Addr) (v : Byte) (s : State) : Run Word32 :=
  match writeCheck a with
  | some e => .stop (.fail e) s
  | none => (busWrite1 a v s).bind fun r s1 => .go (r.status.setWidth 32) s1

/-- `WRREG addr, value` (R281). -/
def execWrreg (a : Addr) (v : Byte) (s : State) : Host.Outcome State Fault Refusal := runCmd .radio (wrregBody a v) s

/-- RDREG's pseudocode (R282): any address is legal. -/
def rdregBody (a : Addr) (s : State) : Run Word32 :=
  (busRead1 a s).bind fun r s1 => .go ((r.status.setWidth 32 <<< 8) ||| r.byte.setWidth 32) s1

/-- `RDREG addr` (R282). -/
def execRdreg (a : Addr) (s : State) : Host.Outcome State Fault Refusal := runCmd .radio (rdregBody a) s

/-- WRBURST's pseudocode (R286): the payload is the first `n` bytes of `PA_BUF`. -/
def wrburstBody (a : Addr) (n : Byte) (s : State) : Run Word32 :=
  match burstCheck a n 8 with
  | some e => .stop (.fail e) s
  | none =>
    (busWriteN a (s.dev.paBuf.toList.take n.toNat) s).bind fun r s1 =>
    .go ((r.status.setWidth 32 <<< 8) ||| n.setWidth 32) s1

/-- `WRBURST addr, len` (R286). -/
def execWrburst (a : Addr) (n : Byte) (s : State) : Host.Outcome State Fault Refusal :=
  runCmd .radio (wrburstBody a n) s

/-- RDBURST's pseudocode (R285): the bytes leave after the interpretation of the status byte. -/
def rdburstBody (a : Addr) (n : Byte) (s : State) : Run Word32 :=
  match burstCheck a n 255 with
  | some e => .stop (.fail e) s
  | none =>
    (busReadN a n.toNat s).bind fun r s1 =>
    .go ((r.status.setWidth 32 <<< 8) ||| n.setWidth 32) (s1.emit (.data .rdburst r.data))

/-- `RDBURST addr, len` (R285). -/
def execRdburst (a : Addr) (n : Byte) (s : State) : Host.Outcome State Fault Refusal :=
  runCmd .radio (rdburstBody a n) s

/-- STROBE's pseudocode (R283): the byte is sent as it is. -/
def strobeBody (c : Byte) (s : State) : Run Word32 :=
  (busStrobe c s).bind fun r s1 => .go (r.status.setWidth 32) s1

/-- `STROBE byte` (R283). -/
def execStrobe (c : Byte) (s : State) : Host.Outcome State Fault Refusal := runCmd .radio (strobeBody c) s

end Sys2Proof.Machine
end

