-- ==== Sys2Proof/Machine/Radio.lean ====
section
/-! DEFINITION. The five SET commands (40_frequency.md to 44_modulation.md). Each has its pseudocode as a procedure,
which INIT runs too (46_controller.md R250 `Sub`). -/

namespace Sys2Proof.Machine

/-! ## SETFREQ -/

/-- SETFREQ's pseudocode (R120): clamp, encode, overflow check before any exchange (R126), three single writes FREQ2
first (R125), then the carrier is recorded (R124). -/
def setfreqBody (hz : Word32) (s : State) : Run Word32 :=
  let fc := clampHz hz.toNat
  let w := encFreq fc s.oscNat
  if freqOverflow w then .stop (.fatal .freqWordOverflow) s
  else
    (busWrite1 s.cfg.reg.freq2 (freqByte2 w) s).bind fun _ s1 =>
    (busWrite1 s.cfg.reg.freq1 (freqByte1 w) s1).bind fun _ s2 =>
    (busWrite1 s.cfg.reg.freq0 (freqByte0 w) s2).bind fun _ s3 =>
    .go (BitVec.ofNat 32 w) (s3.setFreq (BitVec.ofNat 32 fc))

/-- `SETFREQ hz` (R120). -/
def execSetfreq (hz : Word32) (s : State) : Host.Outcome State Fault Refusal := runCmd .radio (setfreqBody hz) s

/-! ## SETBW -/

/-- SETBW's pseudocode (R140): read, encode, merge the low nibble, write. -/
def setbwBody (hz : Word32) (s : State) : Run Word32 :=
  (busRead1 s.cfg.reg.mdmcfg4 s).bind fun old s1 =>
  let new := merge4 (encBw hz.toNat s.oscNat) old.byte
  (busWrite1 s.cfg.reg.mdmcfg4 new s1).bind fun _ s2 => .go (new.setWidth 32) s2

/-- `SETBW hz` (R140). -/
def execSetbw (hz : Word32) (s : State) : Host.Outcome State Fault Refusal := runCmd .radio (setbwBody hz) s

/-! ## SETDEV -/

/-- SETDEV's pseudocode (R160). -/
def setdevBody (hz : Word32) (s : State) : Run Word32 :=
  let d := devByte (encDev s.cfg.devTable hz.toNat s.oscNat)
  (busWrite1 s.cfg.reg.deviatn d s).bind fun _ s1 => .go (d.setWidth 32) s1

/-- `SETDEV hz` (R160). -/
def execSetdev (hz : Word32) (s : State) : Host.Outcome State Fault Refusal := runCmd .radio (setdevBody hz) s

/-! ## SETPWR -/

/-- The staged slots 0 and 1 for a table byte: the byte in slot 1 for on/off keying, in slot 0 otherwise, zero in the
other (R185). -/
def paSlots (modem v : Byte) : Byte × Byte := if isOok modem then (0, v) else (v, 0)

/-- SETPWR's pseudocode (R180): carrier check (R181), band (R182), table length check (R184), index (R183), staging
(R185), burst of eight (R186). -/
def setpwrBody (dbm : Byte) (s : State) : Run Word32 :=
  match s.dev.freqHz with
  | none => .stop (.fatal .carrierUnset) s
  | some f =>
    let b := band f.toNat
    let table := s.cfg.paTab.get b
    if table.length ≠ paLen b then .stop (.fatal .paTableLength) s
    else
      let v := table.getD (paIndex b dbm.toInt) 0
      let s0 := s.stagePa b (paSlots s.radio.modem v).1 (paSlots s.radio.modem v).2
      (busWriteN s.cfg.reg.patable s0.dev.paBuf.toList s0).bind fun _ s1 =>
      .go ((BitVec.ofNat 32 b.val <<< 8) ||| v.setWidth 32) s1

/-- `SETPWR dbm` (R180). -/
def execSetpwr (dbm : Byte) (s : State) : Host.Outcome State Fault Refusal := runCmd .radio (setpwrBody dbm) s

/-! ## SETMOD -/

/-- The MDMCFG2 byte that a `CFG_MODEM` value gives under a layout (R200, R203, R204). -/
def modemByte (l : Mdmcfg2Layout) (modem : Byte) : Byte :=
  mdmcfg2Byte l (dcoffField modem) (modField modem) (manchOut (modField modem) (manchField modem)) (syncField modem)

/-- SETMOD's pseudocode (R200): reserved code check (R202), MDMCFG2 write, front-end byte read, changed in one bit and
written back (R205, R206). -/
def setmodBody (s : State) : Run Word32 :=
  if modReserved (modField s.radio.modem) then .stop (.fatal .invalidModulation) s
  else
    let m2 := modemByte s.cfg.mdmcfg2 s.radio.modem
    (busWrite1 s.cfg.reg.mdmcfg2 m2 s).bind fun _ s1 =>
    (busRead1 s.cfg.reg.frend0 s1).bind fun fe s2 =>
    let fe2 := paSlotBit s.cfg.frend0PaBit fe.byte (modField s.radio.modem)
    (busWrite1 s.cfg.reg.frend0 fe2 s2).bind fun _ s3 =>
    .go ((fe2.setWidth 32 <<< 8) ||| m2.setWidth 32) s3

/-- `SETMOD` (R200). -/
def execSetmod (s : State) : Host.Outcome State Fault Refusal := runCmd .radio setmodBody s

end Sys2Proof.Machine
end

