-- ==== Sys2Proof/Machine/Controller.lean ====
section
/-! DEFINITION. The controller commands INIT, BEGINRX and UPDATE (46_controller.md R250 to R265). -/

namespace Sys2Proof.Machine

/-! ## INIT -/

/-- A ready-wait over the levels the environment has decided: reads until the data-in line is low (R253). When they
run out, the number of further high reads is a free value, and never is the hang (R366; log 13). -/
def waitLevels : List Bool → State → Run Unit
  | [], s =>
    let s0 := s.setEnv { s.env with levels := [], fresh := s.env.fresh + 1 }
    match Config.freeReadyAfter s.env.fresh with
    | none => .stop .hang s0
    | some k =>
      .go () { s0 with trace := s0.trace ++ List.replicate k (.line (.dataInRead true)) ++ [.line (.dataInRead false)] }
  | l :: rest, s =>
    let s1 := (s.setEnv { s.env with levels := rest }).emit (.line (.dataInRead l))
    if l then waitLevels rest s1 else .go () s1

/-- `WaitReady()` (R253). -/
def waitReady (s : State) : Run Unit := waitLevels s.env.levels s

/-- `ResetSeq()` (R253). -/
def resetSeq (s : State) : Run Unit :=
  let s1 := ((((s.emit (.line (.clockSet true))).emit (.line (.dataOutSet false))).emit (.line .csAssert)).emit
    (.delay resetCsDwellUs)).emit (.line .csDeassert)
  (waitReady s1).bind fun _ s2 =>
  (busStrobe s2.cfg.stb.sres s2).fatalOnFail.bind fun _ s3 => waitReady s3

/-- One single write per entry, in list order (R254 steps 1, 2 and 8). -/
def writeAll : List (Addr × Byte) → State → Run Unit
  | [], s => .go () s
  | w :: ws, s => (busWrite1 w.1 w.2 s).fatalOnFail.bind fun _ s1 => writeAll ws s1

/-- A SET command's procedure run inside INIT (R250 `Sub`): its result is dropped, its local failure is fatal. -/
def sub (body : State → Run Word32) (s : State) : Run Unit := (body s).fatalOnFail.bind fun _ s1 => .go () s1

/-- Step 5: the deviation, skipped for on/off keying (R255). -/
def devStep (s : State) : Run Unit := if isOok s.radio.modem then .go () s else sub (setdevBody s.radio.devHz) s

/-- Configuration loading, steps 1 to 8 in DOC0's fixed order (R254). -/
def loadConfig (s : State) : Run Unit :=
  (writeAll s.cfg.fixedRegs s).bind fun _ s1 =>
  (writeAll (pktPreOf s1.cfg s1.radio) s1).bind fun _ s2 =>
  (sub (setfreqBody s2.radio.freqHz) s2).bind fun _ s3 =>
  (sub (setbwBody s3.radio.bwHz) s3).bind fun _ s4 =>
  (devStep s4).bind fun _ s5 =>
  (sub (setpwrBody s5.radio.pwrDbm) s5).bind fun _ s6 =>
  (sub setmodBody s6).bind fun _ s7 =>
  writeAll (pktPostOf s7.cfg s7.radio) s7

/-- Verification: both identification registers are read, then compared (R257). -/
def verify (s : State) : Run Word32 :=
  (busRead1 s.cfg.reg.partnum s).fatalOnFail.bind fun p s1 =>
  (busRead1 s1.cfg.reg.version s1).fatalOnFail.bind fun v s2 =>
  if p.byte ≠ partnumExpect ∨ v.byte ≠ versionExpect then .stop (.fatal .verifyFail) s2
  else .go ((v.byte.setWidth 32 <<< 8) ||| p.byte.setWidth 32) (s2.setCtl .idleReady)

/-- INIT's pseudocode (R250). -/
def initBody (s : State) : Run Word32 :=
  if s.radio.oscHz = 0 then .stop (.fatal .badOscillator) s
  else
    (resetSeq ((s.setOsc s.radio.oscHz).setCtl .resetting)).bind fun _ s1 =>
    (loadConfig (s1.setCtl .configLoading)).bind fun _ s2 => verify (s2.setCtl .verifying)

/-- `INIT` (R250, R251). -/
def execInit (s : State) : Host.Outcome State Fault Refusal := runCmd .init initBody s

/-! ## BEGINRX -/

/-- The receive-enable strobes: attempt `t`, with `k` more allowed after it (R260). The status byte is interpreted
first, then tested; a delay stands between attempts and not after the last. -/
def rxAttempt : Nat → Nat → State → Run Word32
  | k, t, s =>
    (busStrobe s.cfg.stb.srx s).bind fun r s1 =>
    if chipState s1.cfg r.status = .rx then .go (BitVec.ofNat 32 t) (s1.setCtl .receiving)
    else match k with
      | 0 => .stop (.fail .rxEntryFail) (s1.emit (.log .rxEntryFail))
      | j + 1 => rxAttempt j (t + 1) (s1.emit (.delay rxRetryGapUs))

/-- BEGINRX's pseudocode (R258): arm and install first (R259), then up to three strobes. It reads `CFG_EDGE` as it
stands when the command starts, as R29, R258 and R319 say. DESIGN CHOICE: R302 says of every register but `CFG_MODEM`
that INIT alone reads it; no conflict entry decides between them, and the model follows R258 (log 32). -/
def beginrxBody (s : State) : Run Word32 :=
  rxAttempt (rxTries - 1) 1
    (((s.emit (.gpio (.armInterrupt s.radio.edge))).emit (.gpio .installHandler)).arm s.radio.edge)

/-- `BEGINRX` (R258). -/
def execBeginrx (s : State) : Host.Outcome State Fault Refusal := runCmd .beginrx beginrxBody s

/-! ## UPDATE -/

/-- The environment's choice for an UPDATE that waits: an edge first, or the timeout (R263, ID13; log 14). -/
def Env.edgeFirst (e : Env) : Bool :=
  match e.waits with
  | [] => Config.freeEdgeFirst e.fresh
  | b :: _ => b

/-- The environment after that choice. -/
def Env.afterWait (e : Env) : Env := { e with waits := e.waits.tail, fresh := e.fresh + 1 }

/-- UPDATE's pseudocode (R263): take an entry; or wait, where an interrupt step can post one only while the interrupt
is armed; or time out. -/
def updateBody (s : State) : Run Word32 :=
  if s.nq ≠ 0 then .go 1 s.takeNotification
  else if s.irqArmed then
    if s.env.edgeFirst then .go 1 (s.setEnv s.env.afterWait).post.takeNotification
    else .stop (.fail .timeout) (s.setEnv s.env.afterWait)
  else .stop (.fail .timeout) s

/-- `UPDATE` (R263). -/
def execUpdate (s : State) : Host.Outcome State Fault Refusal := runCmd .radio updateBody s

end Sys2Proof.Machine
end

