-- ==== Sys2Proof/Machine/Csr.lean ====
section
/-! DEFINITION. The control register commands CFGW and CFGR (48_config_access.md R300 to R302). -/

namespace Sys2Proof.Machine

/-- CFGW's pseudocode (R300). -/
def cfgwBody (idx : CsrIdx) (v : Word32) (s : State) : Run Word32 :=
  match csrWriteCheck idx v with
  | some e => .stop (.fail e) s
  | none => .go (csrTrim idx v) (s.setRadio (radioWrite s.radio idx v))

/-- `CFGW idx, value` (R300). -/
def execCfgw (idx : CsrIdx) (v : Word32) (s : State) : Host.Outcome State Fault Refusal :=
  runCmd .cfgw (cfgwBody idx v) s

/-- CFGR's pseudocode (R301): index 15 reads the `RES` that stood before. -/
def cfgrBody (idx : CsrIdx) (s : State) : Run Word32 := .go (s.csrRead idx) s

/-- `CFGR idx` (R301). -/
def execCfgr (idx : CsrIdx) (s : State) : Host.Outcome State Fault Refusal := runCmd .cfgr (cfgrBody idx) s

end Sys2Proof.Machine
end

