-- ==== Sys2Proof/Machine/Header.lean ====
section
/-! DEFINITION. The four bus header rows (30_encoding.md R95, R96): each is the bus primitive that forms the header
(20_memory.md R64 to R67), one exchange followed by the interpretation of its status byte (R62 (d)). A primitive is
no command: it is not admitted or refused, it completes nothing and writes neither `RES` nor `ok` (log 20). -/

namespace Sys2Proof.Machine

/-- A single write, `BusWrite1` (R64). -/
def execHdrWrite1 (a : Addr) (v : Byte) (s : State) : Host.Outcome State Fault Refusal :=
  .next (busWrite1 a v s).state

/-- A burst write, `BusWriteN` (R66). -/
def execHdrWriteN (a : Addr) (payload : List Byte) (s : State) : Host.Outcome State Fault Refusal :=
  .next (busWriteN a payload s).state

/-- A single read, `BusRead1` (R65). -/
def execHdrRead1 (a : Addr) (s : State) : Host.Outcome State Fault Refusal := .next (busRead1 a s).state

/-- The header with both control bits set: a status register read in the status range (R96, `BusRead1`), a burst read
elsewhere (`BusReadN`, R67). -/
def execHdrReadN (a : Addr) (n : Byte) (s : State) : Host.Outcome State Fault Refusal :=
  .next (if isStatus a then (busRead1 a s).state else (busReadN a n.toNat s).state)

end Sys2Proof.Machine
end

