-- ==== Sys2Proof/Machine/Interp.lean ====
section
/-! DEFINITION. The INTERP commands (45_status_interpreter.md R235), and the interpreter's drain and flush as the
four-state machine of R234. -/

namespace Sys2Proof.Machine

/-- INTERP's pseudocode: the interpreter on a given status byte, as though an exchange of the given kind had just
returned it (R235). -/
def interpBody (status : Byte) (trig : Trigger) (s : State) : Run Word32 :=
  (interp status trig s).bind fun act s1 => .go ((act.code <<< 8) ||| (status &&& 0x7F#8).setWidth 32) s1

/-- `INTERP.W status` (R235). -/
def execInterpW (status : Byte) (s : State) : Host.Outcome State Fault Refusal :=
  runCmd .radio (interpBody status .write) s

/-- `INTERP.R status` (R235). -/
def execInterpR (status : Byte) (s : State) : Host.Outcome State Fault Refusal :=
  runCmd .radio (interpBody status .read) s

/-! ## The state machine view (R234) -/

/-- The interpreter's states; `SI_FIFO` carries the number of bytes its burst asks for. -/
inductive SiState where
  | idle
  | count
  | fifo (n : Nat)
  | flush
deriving DecidableEq, Repr

/-- One transition of R234: the exchange that is in flight in the state ends, and the next state follows from its
success, the reconciled count and whether the chip state was `RXFIFO_OVERFLOW`. The Bool is 0 on a failed exchange. -/
def siStep (overflow : Bool) (st : SiState) (s : State) : SiState × Bool × State :=
  match st with
  | .idle => (.idle, true, s)
  | .count =>
    let c := rawRead1 s.cfg.reg.rxbytes s
    if c.1.ok then
      let n := drainCount s.cfg c.1.byte c.1.status
      (if 0 < n then .fifo n else if overflow then .flush else .idle, true, c.2)
    else (.idle, false, c.2)
  | .fifo n =>
    let f := rawReadN s.cfg.reg.rxfifo n s
    if f.1.ok then (if overflow then .flush else .idle, true, f.2.emit (.data .drain f.1.data))
    else (.idle, false, f.2)
  | .flush =>
    let f := rawStrobe s.cfg.stb.sfrx s
    (.idle, f.1.ok, f.2)

/-- At most `k` transitions, ending in `SI_IDLE` with the success flag. -/
def siRun (overflow : Bool) : Nat → SiState → State → SiState × Bool × State
  | 0, st, s => (st, true, s)
  | k + 1, st, s =>
    match siStep overflow st s with
    | (.idle, ok, s1) => (.idle, ok, s1)
    | (st1, _, s1) => siRun overflow k st1 s1

end Sys2Proof.Machine
end

