-- ==== Sys2Proof/Machine/Reserved.lean ====
section
/-! DEFINITION. The command words with a reserved `op` (30_encoding.md R93, 60_exceptions.md R316). -/

namespace Sys2Proof.Machine

/-- `op` 0x0 (R93). -/
def execReserved0 (s : State) : Host.Outcome State Fault Refusal := runReserved s

/-- `op` 0xE (R93). -/
def execReservedE (s : State) : Host.Outcome State Fault Refusal := runReserved s

/-- `op` 0xF (R93). -/
def execReservedF (s : State) : Host.Outcome State Fault Refusal := runReserved s

end Sys2Proof.Machine
end

