-- ==== Sys2Proof/Machine/Dispatch.lean ====
section
/-! DEFINITION. The dispatch: one arm per instruction, each a direct call of its meaning. -/

namespace Sys2Proof.Machine

/-- The meaning of an instruction. -/
def exec (i : Instr) (s : State) : Host.Outcome State Fault Refusal :=
  match i with
  | .cfgw idx value => Sys2Proof.Machine.execCfgw idx value s
  | .cfgr idx => Sys2Proof.Machine.execCfgr idx s
  | .setfreq hz => Sys2Proof.Machine.execSetfreq hz s
  | .setbw hz => Sys2Proof.Machine.execSetbw hz s
  | .setdev hz => Sys2Proof.Machine.execSetdev hz s
  | .setpwr dbm => Sys2Proof.Machine.execSetpwr dbm s
  | .setmod => Sys2Proof.Machine.execSetmod s
  | .wrreg addr value => Sys2Proof.Machine.execWrreg addr value s
  | .rdreg addr => Sys2Proof.Machine.execRdreg addr s
  | .wrburst addr len => Sys2Proof.Machine.execWrburst addr len s
  | .rdburst addr len => Sys2Proof.Machine.execRdburst addr len s
  | .interpW status => Sys2Proof.Machine.execInterpW status s
  | .interpR status => Sys2Proof.Machine.execInterpR status s
  | .init => Sys2Proof.Machine.execInit s
  | .beginrx => Sys2Proof.Machine.execBeginrx s
  | .update => Sys2Proof.Machine.execUpdate s
  | .strobe byte => Sys2Proof.Machine.execStrobe byte s
  | .reserved0 => Sys2Proof.Machine.execReserved0 s
  | .reservedE => Sys2Proof.Machine.execReservedE s
  | .reservedF => Sys2Proof.Machine.execReservedF s
  | .hdrWrite1 addr value => Sys2Proof.Machine.execHdrWrite1 addr value s
  | .hdrWriteN addr payload => Sys2Proof.Machine.execHdrWriteN addr payload s
  | .hdrRead1 addr => Sys2Proof.Machine.execHdrRead1 addr s
  | .hdrReadN addr len => Sys2Proof.Machine.execHdrReadN addr len s

end Sys2Proof.Machine
end

