-- ==== Sys2Proof/Machine/Fetch.lean ====
section
/-! DEFINITION. What is presented to the block next: the block has no program counter and fetches nothing
(10_state.md R21, 20_memory.md R75); a command word is sampled once, when the command starts. -/

namespace Sys2Proof.Machine

/-- What is presented next. -/
def State.nextInput (s : State) : Option Input := s.env.inputs.head?

/-- The block having taken what was presented. -/
def State.takeInput (s : State) : State := s.setEnv { s.env with inputs := s.env.inputs.tail }

/-- Something presented ahead of everything else. -/
def State.present (s : State) (i : Input) : State := s.setEnv { s.env with inputs := i :: s.env.inputs }

/-- An opcode-table word presented ahead of everything else; a width the table does not have presents nothing. -/
def State.presentTableWord (s : State) (nbits w : Nat) : State :=
  match tableBits nbits w with
  | some b => s.present (.words b)
  | none => s

end Sys2Proof.Machine
end

