-- ==== Sys2Proof/Machine/Step.lean ====
section
/-! DEFINITION. One step: the block takes what is presented next. A command word or bus frame is decoded and executed
to completion; an edge is an interrupt step; power-on resets the block; with nothing presented the block waits
(00_scope.md R10, 60_exceptions.md R313, R319, 70_reset_and_hazards.md R350, R351; log 15, 16). -/

namespace Sys2Proof.Machine

/-- One step of the block. -/
def step (s : State) : Host.Outcome State Fault Refusal :=
  match s.nextInput with
  | none => .next s
  | some (.edge e) => .next (s.takeInput.interrupt e)
  | some .powerOn => .next s.takeInput.powerOn
  | some (.words b) =>
    match decode b with
    | .instr i => exec i s.takeInput
    | .rejected e => .refused (.badFrame e)

/-- The state with an opcode-table word where the next step takes its instruction: at the head of what is presented
to the block (log 16). -/
def State.withFetchWord (s : State) (nbits w : Nat) : State := s.presentTableWord nbits w

end Sys2Proof.Machine
end

