-- ==== Sys2Proof/Safety.lean ====
section
/-! DEFINITION. The terms the statements use: what the interpreter does with a status byte, what the environment must
have decided for an exchange to go smoothly, the invariant of the block, the transition table of its controller (R265),
the access discipline of its bus events (R61 to R68), and what an operation leaves unchanged. -/

namespace Sys2Proof.Machine

/-! ## Status bytes -/

/-- The status bytes on which the interpreter drains: an overflow, or receive mode with bytes available on a read
(R227). -/
def drains (c : Config) (status : Byte) (trig : Trigger) : Bool :=
  match chipState c status with
  | .rxFifoOverflow => true
  | .rx => statusCount status != 0 && trig == .read
  | _ => false

/-- The log events of a status byte: one for the four "other" states, none otherwise (R227, R228). -/
def statusLog (c : Config) (status : Byte) : List Event :=
  match chipState c status with
  | .tx => [.log (.state .tx)]
  | .calibrate => [.log (.state .calibrate)]
  | .settling => [.log (.state .settling)]
  | .rxAbort => [.log (.state .rxAbort)]
  | _ => []

/-- The action of the interpreter on a status byte that does not drain (R227). -/
def calmAct (c : Config) (status : Byte) : Act := if statusLog c status = [] then .none else .log

/-- An answer to an exchange delivering `n` bytes that succeeds and makes the interpreter drain nothing. -/
abbrev Smooth (c : Config) (trig : Trigger) (n : Nat) (a : Answer) : Prop :=
  a.ok = true ∧ a.data.length = n ∧ drains c a.status trig = false

/-- The environment after some answers have been used. -/
def Env.used (e : Env) (rest : List Answer) (k : Nat) : Env := { e with answers := rest, fresh := e.fresh + k }

/-- The events of one smooth exchange: its `Bus` event, then what the interpreter logs. -/
def smoothEvents (c : Config) (k : BusKind) (header : Byte) (sent : List Byte) (a : Answer) : List Event :=
  .bus k header sent a :: statusLog c a.status

/-- The events of single writes, one for each entry of a list, each with its smooth answer (R254 steps 1, 2, 8). -/
def writeEvents (c : Config) (ws : List (Addr × Byte)) (answers : List Answer) : List Event :=
  (ws.zip answers).flatMap (fun p => smoothEvents c .write1 (hdr 0 0 p.1.1) [p.1.2] p.2)

/-- The reads of a ready-wait: some high levels, then a low one (R253). -/
def waitEvents (m : Nat) : List Event :=
  List.replicate m (.line (.dataInRead true)) ++ [.line (.dataInRead false)]

/-! ## Kinds of events -/

/-- Is a `Bus` event. -/
def Event.isBus : Event → Bool
  | .bus _ _ _ _ => true
  | _ => false

/-- Is the `Bus` event of a failed exchange (R78). -/
def Event.failedExchange : Event → Bool
  | .bus _ _ _ a => !a.ok
  | _ => false

/-- Among these events a failed exchange can only be the last one. -/
def failedOnlyLast (es : List Event) : Prop :=
  ∀ (before after : List Event) (e : Event), es = before ++ e :: after → e.failedExchange = true → after = []

/-- Is an event that the interpreter or an exchange emits. -/
def Event.isTraffic : Event → Bool
  | .bus _ _ _ _ => true
  | .data _ _ => true
  | .log _ => true
  | _ => false

/-! ## Successful answers, drains and flushes included -/

/-- The state right after one exchange with a decided answer: its `Bus` event, and the answer used (R62). -/
def State.exchanged (s : State) (k : BusKind) (header : Byte) (sent : List Byte) (a : Answer) (rest : List Answer) :
    State :=
  { s with trace := s.trace ++ [.bus k header sent a], env := s.env.used rest 1 }

/-- How a command ends whose exchange was answered with success, from the state after that exchange: the interpreter
runs on the status byte, with its drain and flush; where it goes on the command is done, and where one of its own
exchanges fails the command ends with `BusFailure` (R17, R220, R233). -/
def interpretedEnd (trig : Trigger) (status : Byte) (u : State) (done : State → State) :
    Host.Outcome State Fault Refusal :=
  match interp status trig u with
  | .go _ v => .next (done v)
  | .stop _ v => .next { v with ok := false, res := 0x02 }

/-- DeviceState as SETPWR stages it: the band, and the table byte in slot 0 or, for on/off keying, in slot 1, with a
zero in the other (R182, R185). -/
def DevState.staged (d : DevState) (b : Fin 4) (modem v : Byte) : DevState :=
  { d with
    paSel := BitVec.ofNat 2 b.val
    paBuf := if modem.toNat % 8 = 3 then (d.paBuf.set 0 0).set 1 v else (d.paBuf.set 0 v).set 1 0 }

/-- BEGINRX has armed the interrupt and installed its handler, and has sent no strobe yet (R259; log 32). -/
def State.armedFor (s : State) : State :=
  { s with
    irqArmed := true
    irqPolicy := s.radio.edge
    trace := s.trace ++ [.gpio (.armInterrupt s.radio.edge), .gpio .installHandler] }

/-- One receive-enable strobe is answered with success, and the interpretation of its status byte, whatever it drains
and flushes, goes on to the second state (R260). -/
def strobed (a : Answer) (s v : State) : Prop :=
  ∃ rest act, s.env.answers = a :: rest ∧ a.ok = true ∧ a.data = [] ∧
    interp a.status .write (s.exchanged .strobe s.cfg.stb.srx [] a rest) = .go act v

/-- Strobes that do not show receive mode, each followed by the retry delay (R260). -/
def strobedInVain : List Answer → State → State → Prop
  | [], s, u => u = s
  | a :: as, s, u => ∃ v, strobed a s v ∧ chipState s.cfg a.status ≠ .rx ∧
      strobedInVain as { v with trace := v.trace ++ [.delay 40] } u

/-! ## What INIT needs of its configuration -/

/-- The frequency word of INIT's carrier fits (R122, R126). -/
def initWordFits (s : State) : Prop :=
  ⌊((min (max s.radio.freqHz.toNat 300000000) 928000000 : Nat) : ℚ) / ((s.radio.oscHz.toNat : ℚ) / 65536) + 1 / 2⌋₊
    < 2 ^ 22

/-- The table of the band of INIT's carrier has that band's length (R182, R184). -/
def initTableFits (s : State) : Prop :=
  let fc := min (max s.radio.freqHz.toNat 300000000) 928000000
  let b : Fin 4 := if fc ≤ 348000000 then 0 else if fc ≤ 464000000 then 1 else if fc ≤ 880000000 then 2 else 3
  (s.cfg.paTab.get b).length = if b.val ≤ 1 then 8 else 10

/-- INIT's modulation code is not one of the three reserved ones (R202). -/
def initModulationFits (s : State) : Prop :=
  s.radio.modem.toNat % 8 ≠ 2 ∧ s.radio.modem.toNat % 8 ≠ 5 ∧ s.radio.modem.toNat % 8 ≠ 6

/-- Among these events both identification registers are read with success, in their order, right after Verifying and
with nothing but bus traffic between and after them; the answers are given (R257). -/
def identified (s : State) (es : List Event) (p v : Answer) : Prop :=
  ∃ before between after : List Event,
    es = before ++ [.ctl .verifying, .bus .read1 (hdr 1 0 s.cfg.reg.partnum) [] p] ++ between
      ++ [.bus .read1 (hdr 1 0 s.cfg.reg.version) [] v] ++ after ∧
    (∀ e ∈ between ++ after, e.isTraffic = true) ∧ p.ok = true ∧ v.ok = true

/-! ## The invariant of the block -/

/-- What holds between commands in every state a run from reset reaches. -/
structure State.Inv (s : State) : Prop where
  /-- The configuration is well formed (ID7). -/
  cfgWf : s.cfg.wf = true
  /-- The three transient states exist only inside INIT (R35, R316). -/
  stable : s.ctl = .uninitialized ∨ s.ctl = .idleReady ∨ s.ctl = .receiving ∨ s.ctl = .faulted
  /-- `FAULT` is non-zero exactly in Faulted (R36, R313). -/
  faultIff : s.fault = 0 ↔ s.ctl ≠ .faulted
  /-- `FAULT` holds one of the codes of R310. -/
  faultCode : s.fault.toNat ≤ 8
  /-- After INIT the oscillator and the carrier hold a value, the oscillator not zero (R31, R32, R252). -/
  ready : s.ctl = .idleReady ∨ s.ctl = .receiving → s.oscv = true ∧ s.frqv = true
  /-- A recorded oscillator is not zero (R252). -/
  osc : s.dev.oscHz ≠ some 0
  /-- Before INIT nothing derived holds anything, and the interrupt is not armed (R31, R32, R38). -/
  before : s.ctl = .uninitialized → s.oscv = false ∧ s.frqv = false ∧ s.irqArmed = false
  /-- A recorded carrier is a clamped one (R121, R124). -/
  carrier : ∀ f, s.dev.freqHz = some f → 300000000 ≤ f.toNat ∧ f.toNat ≤ 928000000
  /-- The reserved edge policy is never stored (R29). -/
  edge : s.radio.edge ≠ 3
  /-- The armed policy is never the reserved one (R29, R319). -/
  policy : s.irqPolicy ≠ 3
  /-- The queue never holds more than its depth (R38, R321). -/
  queue : s.nq ≤ queueDepth
  /-- A notification comes only from an armed interrupt (R319). -/
  armed : s.nq ≠ 0 → s.irqArmed = true
  /-- One of the first two slots of the staging buffer is zero (R185). -/
  slots : s.dev.paBuf[0] = 0 ∨ s.dev.paBuf[1] = 0
  /-- The other six slots are never written (R185). -/
  upper : ∀ k (h : k < 8), 2 ≤ k → s.dev.paBuf[k] = 0

/-! ## Admission, as the table of R316 has it -/

/-- The commands that R316 marks `R` in a controller state, cell by cell. The bus header rows are no commands. -/
def refusedIn (i : Instr) (c : CtlState) : Bool :=
  match i with
  | .cfgr _ => false
  | .cfgw _ _ => c == .faulted
  | .init => c == .idleReady || c == .receiving || c == .faulted
  | .setfreq _ => c == .uninitialized || c == .faulted
  | .setbw _ => c == .uninitialized || c == .faulted
  | .setdev _ => c == .uninitialized || c == .faulted
  | .setpwr _ => c == .uninitialized || c == .faulted
  | .setmod => c == .uninitialized || c == .faulted
  | .wrreg _ _ => c == .uninitialized || c == .faulted
  | .rdreg _ => c == .uninitialized || c == .faulted
  | .wrburst _ _ => c == .uninitialized || c == .faulted
  | .rdburst _ _ => c == .uninitialized || c == .faulted
  | .strobe _ => c == .uninitialized || c == .faulted
  | .interpW _ => c == .uninitialized || c == .faulted
  | .interpR _ => c == .uninitialized || c == .faulted
  | .beginrx => c == .uninitialized || c == .receiving || c == .faulted
  | .update => c == .uninitialized || c == .faulted
  | .reserved0 => c == .faulted
  | .reservedE => c == .faulted
  | .reservedF => c == .faulted
  | .hdrWrite1 _ _ => false
  | .hdrWriteN _ _ => false
  | .hdrRead1 _ => false
  | .hdrReadN _ _ => false

/-- Is a command: admitted or refused, and completed with `ok` and `RES` (R11). The four bus header rows are none. -/
def isCommand : Instr → Bool
  | .cfgw _ _ => true
  | .cfgr _ => true
  | .setfreq _ => true
  | .setbw _ => true
  | .setdev _ => true
  | .setpwr _ => true
  | .setmod => true
  | .wrreg _ _ => true
  | .rdreg _ => true
  | .wrburst _ _ => true
  | .rdburst _ _ => true
  | .interpW _ => true
  | .interpR _ => true
  | .init => true
  | .beginrx => true
  | .update => true
  | .strobe _ => true
  | .reserved0 => true
  | .reservedE => true
  | .reservedF => true
  | .hdrWrite1 _ _ => false
  | .hdrWriteN _ _ => false
  | .hdrRead1 _ => false
  | .hdrReadN _ _ => false

/-- The bits of a command word that its decoder reads (R91, R92). -/
def namedBits : Instr → CmdWord
  | .cfgw _ _ => 0xFFFFFFFFFF
  | .cfgr _ => 0xFF00000000
  | .setfreq _ => 0xF0FFFFFFFF
  | .setbw _ => 0xF0FFFFFFFF
  | .setdev _ => 0xF0FFFFFFFF
  | .setpwr _ => 0xF0000000FF
  | .setmod => 0xF000000000
  | .wrreg _ _ => 0xF30000FF3F
  | .rdreg _ => 0xF30000003F
  | .wrburst _ _ => 0xF300FF003F
  | .rdburst _ _ => 0xF300FF003F
  | .interpW _ => 0xF1000000FF
  | .interpR _ => 0xF1000000FF
  | .init => 0xF000000000
  | .beginrx => 0xF000000000
  | .update => 0xF000000000
  | .strobe _ => 0xF0000000FF
  | .reserved0 => 0xF000000000
  | .reservedE => 0xF000000000
  | .reservedF => 0xF000000000
  | .hdrWrite1 _ _ => 0
  | .hdrWriteN _ _ => 0
  | .hdrRead1 _ => 0
  | .hdrReadN _ _ => 0

/-- The number of exchanges INIT makes before verification when no status byte drains: the reset strobe, the three
lists, and the SET sequences (R394). -/
def initExchanges (s : State) : Nat :=
  1 + s.cfg.fixedRegs.length + (pktPreOf s.cfg s.radio).length + 3 + 2 + (if isOok s.radio.modem then 0 else 1) + 1 + 3
    + (pktPostOf s.cfg s.radio).length

/-! ## The controller's transitions -/

/-- The transitions of `CTL_STATE.STATE` that R265 lists, but for reset. -/
def ctlAllowed : CtlState → CtlState → Bool
  | .uninitialized, .resetting => true
  | .uninitialized, .faulted => true
  | .resetting, .configLoading => true
  | .resetting, .faulted => true
  | .configLoading, .verifying => true
  | .configLoading, .faulted => true
  | .verifying, .idleReady => true
  | .verifying, .faulted => true
  | .idleReady, .receiving => true
  | .idleReady, .faulted => true
  | .receiving, .faulted => true
  | _, _ => false

/-- The states written by a list of events, in order. -/
def ctlWrites (es : List Event) : List CtlState :=
  es.filterMap (fun e => match e with | .ctl c => some c | _ => none)

/-- A list of written states is a path of allowed transitions from one state to another. -/
def ctlPath : CtlState → List CtlState → CtlState → Prop
  | c, [], d => c = d
  | c, x :: xs, d => ctlAllowed c x = true ∧ ctlPath x xs d

/-! ## The access discipline of the bus -/

/-- The control bits and address of a header byte (R95). -/
def hdrBits (h : Byte) : BitVec 2 := h.extractLsb' 6 2
/-- The address of a header byte (R95). -/
def hdrAddr (h : Byte) : Addr := h.extractLsb' 0 6

/-- A `Bus` event keeps the access rules of R61 and R63 to R68: control bits by kind, no write and no burst in the
status range, a status register read with both bits set, payloads of the widths of R71. -/
def Event.accessOk : Event → Bool
  | .bus .strobe _ sent a => sent == [] && a.data == []
  | .bus .write1 h sent a => hdrBits h == 0 && !isStatus (hdrAddr h) && sent.length == 1 && a.data == []
  | .bus .writeN h sent a =>
    hdrBits h == 1 && !isStatus (hdrAddr h) && decide (1 ≤ sent.length ∧ sent.length ≤ 8) && a.data == []
  | .bus .read1 h sent a => hdrBits h == (if isStatus (hdrAddr h) then 3 else 2) && sent == [] && a.data.length == 1
  | .bus .readN h sent a =>
    hdrBits h == 3 && !isStatus (hdrAddr h) && sent == [] && decide (1 ≤ a.data.length ∧ a.data.length ≤ 255)
  | _ => true

/-! ## Frames -/

/-- Bus traffic and nothing else: only the answers, the free-value counter and the trace may differ, and the trace
grows by traffic events. -/
structure TrafficOnly (s t : State) : Prop where
  cfg : t.cfg = s.cfg
  radio : t.radio = s.radio
  dev : t.dev = s.dev
  ctl : t.ctl = s.ctl
  fault : t.fault = s.fault
  res : t.res = s.res
  ok : t.ok = s.ok
  irqArmed : t.irqArmed = s.irqArmed
  irqPolicy : t.irqPolicy = s.irqPolicy
  nq : t.nq = s.nq
  inputs : t.env.inputs = s.env.inputs
  levels : t.env.levels = s.env.levels
  waits : t.env.waits = s.env.waits
  trace : ∃ new, t.trace = s.trace ++ new ∧ ∀ e ∈ new, e.isTraffic = true

/-- A command's completion and bus traffic, nothing else: no register but `RES`, and `ok`, differs. -/
structure CompletionOnly (s t : State) : Prop where
  cfg : t.cfg = s.cfg
  radio : t.radio = s.radio
  dev : t.dev = s.dev
  ctl : t.ctl = s.ctl
  fault : t.fault = s.fault
  irqArmed : t.irqArmed = s.irqArmed
  irqPolicy : t.irqPolicy = s.irqPolicy
  nq : t.nq = s.nq
  inputs : t.env.inputs = s.env.inputs
  levels : t.env.levels = s.env.levels
  waits : t.env.waits = s.env.waits
  trace : ∃ new, t.trace = s.trace ++ new ∧ ∀ e ∈ new, e.isTraffic = true

end Sys2Proof.Machine
end

