-- ==== Sys2Proof/Certificates/Slice0/Obligations.lean ====
section
/-! DEFINITION. The statements for the provers. Terms are those of Safety.lean; a statement about one instruction's
result gives the whole next state, so that everything it does not name is unchanged. The oracle, the data-in line, the
wait and the host (00_scope.md R10, R12) appear as what `State.env` has decided: that representation is the model's
choice (logs 11, 13, 14, 16), and every statement holds for every value it can have. -/

open Sys2Proof Sys2Proof.Machine

/-! ## Encoding -/

/-- Decoding what the encoder writes gives the instruction back, for every well-formed instruction. The frame form of
the header rows, header then payload slots, is the model's choice (log 22). -/
def Obligations.DecodeOfEncodeIsTheInstruction : Prop :=
  ∀ i : Instr, i.wf = true → decode (encode i) = .instr i

/-- Whatever the decoder accepts is a well-formed instruction, on the host port and on the bus. -/
def Obligations.DecodedInstructionsAreWellFormed : Prop :=
  ∀ (b : Bits) (i : Instr), decode b = .instr i → i.wf = true

/-- The command set of R91: which instruction each `op` and `idx` selects, and which bits of `arg` are its operands. -/
def Obligations.CommandDecodeFollowsTheCommandSet : Prop :=
  ∀ (op idx : BitVec 4) (arg : Word32),
    let addr : Addr := BitVec.ofNat 6 arg.toNat
    let low : Byte := BitVec.ofNat 8 arg.toNat
    let value : Byte := BitVec.ofNat 8 (arg.toNat / 2 ^ 8)
    let len : Byte := BitVec.ofNat 8 (arg.toNat / 2 ^ 16)
    decodeCommand (op ++ idx ++ arg) =
      if op = 0x0 then .reserved0
      else if op = 0x1 then .cfgw idx arg
      else if op = 0x2 then .cfgr idx
      else if op = 0x3 then .setfreq arg
      else if op = 0x4 then .setbw arg
      else if op = 0x5 then .setdev arg
      else if op = 0x6 then .setpwr low
      else if op = 0x7 then .setmod
      else if op = 0x8 then
        if idx.toNat % 4 = 0 then .wrreg addr value
        else if idx.toNat % 4 = 1 then .rdreg addr
        else if idx.toNat % 4 = 2 then .wrburst addr len
        else .rdburst addr len
      else if op = 0x9 then (if idx.toNat % 2 = 0 then .interpW low else .interpR low)
      else if op = 0xA then .init
      else if op = 0xB then .beginrx
      else if op = 0xC then .update
      else if op = 0xD then .strobe low
      else if op = 0xE then .reservedE
      else .reservedF

/-- Bits of a command word that its command does not name have no effect, whatever their value (R92). -/
def Obligations.UnnamedBitsHaveNoEffect : Prop :=
  ∀ w m : CmdWord, m &&& namedBits (decodeCommand w) = 0 → decodeCommand (w ^^^ m) = decodeCommand w

/-- Words written out from the encoding tables decode to the instructions they stand for. -/
def Obligations.SampleWordsDecode : Prop :=
  decode (.cmd40 0x3019DD1800) = .instr (.setfreq 433920000) ∧
  decode (.cmd40 0x1500000003) = .instr (.cfgw 5 3) ∧
  decode (.cmd40 0x8100000031) = .instr (.rdreg 0x31) ∧
  decode (.cmd40 0x60000000F6) = .instr (.setpwr 0xF6) ∧
  decode (.cmd40 0x9100000017) = .instr (.interpR 0x17) ∧
  decode (.cmd40 0x80FFFF05C8) = .instr (.wrreg 0x08 0x05) ∧
  decode (.cmd40 0xE123456789) = .instr .reservedE ∧
  decode (.hdr8 [0x0D, 0x10]) = .instr (.hdrWrite1 0x0D 0x10)

/-- The header byte of every access (R96): the two control bits above the address, and `0xC0 | a` for a status
register read. -/
def Obligations.HeaderByteOfEveryAccess : Prop :=
  ∀ a : Addr,
    (hdr 0 0 a).toNat = a.toNat ∧ (hdr 0 1 a).toNat = 0x40 + a.toNat ∧ (hdr 1 1 a).toNat = 0xC0 + a.toNat ∧
    (hdr 1 0 a).toNat = (if 0x30 ≤ a.toNat ∧ a.toNat ≤ 0x3D then 0xC0 else 0x80) + a.toNat

/-! ## The step -/

/-- When the words presented next decode to an instruction, the step is that instruction on the state that has taken
them. How words are presented is the model's choice (log 16). -/
def Obligations.StepRunsTheDecodedInstruction : Prop :=
  ∀ (s : State) (b : Bits) (rest : List Input) (i : Instr),
    s.env.inputs = .words b :: rest → decode b = .instr i →
    step s = exec i { s with env := { s.env with inputs := rest } }

/-- The step on everything else: nothing presented leaves the state as it is (R351), power-on gives the reset values
under the same parameters and environment (R350), and a frame the decoder rejects is refused by name (the model's own
choice, log 21 and 22). -/
def Obligations.StepWithoutAnInstruction : Prop :=
  (∀ s : State, s.env.inputs = [] → step s = .next s) ∧
  (∀ (s : State) (rest : List Input), s.env.inputs = .powerOn :: rest →
    step s = .next (State.resetOf s.cfg { s.env with inputs := rest })) ∧
  (∀ (s : State) (b : Bits) (rest : List Input) (e : FrameError), s.env.inputs = .words b :: rest →
    decode b = .rejected e → step s = .refused (.badFrame e))

/-- An edge on the receive-data pin posts one notification when the interrupt is armed, the edge is of the armed policy
and the queue is empty; otherwise it does nothing; it touches nothing but the queue (R319 to R321). How edges are
presented is the model's choice (log 16); the reserved policy, which is never stored (R29), is shut out (log 19). -/
def Obligations.EdgePostsOneNotification : Prop :=
  ∀ (s : State) (e : Edge) (rest : List Input), s.env.inputs = .edge e :: rest → s.irqPolicy ≠ 3 →
    step s = .next { s with
      nq := if s.irqArmed = true ∧ s.nq = 0 ∧
          (s.irqPolicy = 2 ∨ (s.irqPolicy = 0 ∧ e = .rising) ∨ (s.irqPolicy = 1 ∧ e = .falling)) then 1 else s.nq
      env := { s.env with inputs := rest } }

/-! ## Reset -/

/-- The reset values the spec gives (R45, R350), for every configuration. -/
def Obligations.ResetLeavesTheStatedValues : Prop :=
  ∀ (c : Config) (e : Env),
    let s := State.resetOf c e
    s.radio.oscHz.toNat = 26000000 ∧ s.radio.freqHz = 0 ∧ s.radio.bwHz = 0 ∧ s.radio.devHz = 0 ∧ s.radio.pwrDbm = 0 ∧
    s.radio.modem = 0 ∧ s.radio.pkt = 0 ∧ s.radio.edge = 0 ∧ s.dev.oscHz = none ∧ s.dev.freqHz = none ∧
    s.dev.paSel = 0 ∧ (∀ k (h : k < 8), s.dev.paBuf[k] = 0) ∧ s.ctl = .uninitialized ∧ s.ctlWord = 0 ∧ s.fault = 0 ∧
    s.res = 0 ∧ s.irqArmed = false ∧ s.nq = 0 ∧ s.trace = []

/-- A well-formed configuration builds a machine that starts in the invariant, the suggested one among them; an
ill-formed one builds none (ID7). The clause on the sampled edge policy rests on the model's reset value of it
(log 18). -/
def Obligations.ResetSatisfiesTheInvariant : Prop :=
  State.reset.Inv ∧ (∀ c : Config, c.wf = true → ∃ s, State.resetWith c = some s ∧ s.Inv) ∧
  (∀ c : Config, c.wf = false → State.resetWith c = none)

/-! ## Invariants and whole-machine rules -/

/-- Every step keeps the invariant of the block. -/
def Obligations.EveryStepKeepsTheInvariant : Prop :=
  ∀ s t : State, s.Inv → step s = .next t → t.Inv

/-- The trace only grows, and the controller states written during a step are a path of the transitions of R265 from
the state before to the state after; only power-on is not such a path. -/
def Obligations.ControllerFollowsItsTransitionTable : Prop :=
  ∀ s t : State, step s = .next t → s.env.inputs.head? ≠ some .powerOn →
    ∃ new, t.trace = s.trace ++ new ∧ ctlPath s.ctl (ctlWrites new) t.ctl

/-- Under a well-formed configuration every step keeps the access discipline of the bus: no write and no burst in the
status range, the control bits of each kind, the payload widths of R71. -/
def Obligations.EveryStepKeepsTheBusDiscipline : Prop :=
  ∀ s t : State, s.cfg.wf = true → (∀ e ∈ s.trace, e.accessOk = true) → step s = .next t →
    ∀ e ∈ t.trace, e.accessOk = true

/-- Faulted is terminal: nothing but power-on leaves it, and `FAULT` keeps the first code (R36, R314). -/
def Obligations.FaultedIsTerminal : Prop :=
  ∀ s t : State, s.ctl = .faulted → step s = .next t → s.env.inputs.head? ≠ some .powerOn →
    t.ctl = .faulted ∧ t.fault = s.fault

/-- Which instruction may change which register: whatever changed tells which instruction ran. A fault is latched by the
commands that have fatal faults and the reserved words only, the controller moves by those and BEGINRX only, and only
a command writes `RES` and `ok` (R23 to R41). -/
def Obligations.EachRegisterHasItsWriters : Prop :=
  ∀ (i : Instr) (s t : State), exec i s = .next t →
    t.cfg = s.cfg ∧
    (t.radio ≠ s.radio → ∃ idx v, i = .cfgw idx v) ∧
    (t.dev.oscHz ≠ s.dev.oscHz → i = .init) ∧
    (t.dev.freqHz ≠ s.dev.freqHz → i = .init ∨ ∃ hz, i = .setfreq hz) ∧
    (t.dev.paSel ≠ s.dev.paSel ∨ t.dev.paBuf ≠ s.dev.paBuf → i = .init ∨ ∃ p, i = .setpwr p) ∧
    (t.fault ≠ s.fault → i = .init ∨ (∃ hz, i = .setfreq hz) ∨ (∃ p, i = .setpwr p) ∨ i = .setmod ∨
      i = .reserved0 ∨ i = .reservedE ∨ i = .reservedF) ∧
    (t.ctl ≠ s.ctl → i = .init ∨ i = .beginrx ∨ (∃ hz, i = .setfreq hz) ∨ (∃ p, i = .setpwr p) ∨ i = .setmod ∨
      i = .reserved0 ∨ i = .reservedE ∨ i = .reservedF) ∧
    (t.res ≠ s.res ∨ t.ok ≠ s.ok → isCommand i = true) ∧
    (t.irqArmed ≠ s.irqArmed ∨ t.irqPolicy ≠ s.irqPolicy → i = .beginrx) ∧
    (t.nq ≠ s.nq → i = .update) ∧
    (t.env.levels ≠ s.env.levels → i = .init) ∧
    (t.env.waits ≠ s.env.waits → i = .update) ∧
    t.env.inputs = s.env.inputs

/-- The bus access commands, the bandwidth and deviation commands and INTERP change no register but `RES` and `ok`:
besides those, only bus traffic (R280, R226). -/
def Obligations.BusCommandsChangeOnlyTheResult : Prop :=
  ∀ (s t : State) (a : Addr) (v : Byte) (hz : Word32),
    (exec (.wrreg a v) s = .next t ∨ exec (.rdreg a) s = .next t ∨ exec (.wrburst a v) s = .next t ∨
      exec (.rdburst a v) s = .next t ∨ exec (.strobe v) s = .next t ∨ exec (.interpW v) s = .next t ∨
      exec (.interpR v) s = .next t ∨ exec (.setbw hz) s = .next t ∨ exec (.setdev hz) s = .next t) →
    CompletionOnly s t

/-! ## Admission and fatal faults -/

/-- A command refused by the admission table has no effect but `RES` = 1 and `ok` = 0 (R316, R317). -/
def Obligations.RefusedCommandHasNoEffect : Prop :=
  ∀ (i : Instr) (s : State), refusedIn i s.ctl = true → exec i s = .next { s with ok := false, res := 0x00000001 }

/-- A command word with a reserved `op` raises `Fatal(IllegalCommand)` in every state but Faulted, with nothing else
changed (R93, R313). -/
def Obligations.ReservedOpIsAFatalFault : Prop :=
  ∀ (i : Instr) (s : State), i = .reserved0 ∨ i = .reservedE ∨ i = .reservedF → s.ctl ≠ .faulted →
    exec i s = .next { s with fault := 1, ctl := .faulted, trace := s.trace ++ [.ctl .faulted], res := 0x0000000F,
                              ok := false }

/-- A fatal fault latches its code of R310, enters Faulted with its event, leaves `RES` = 0xF and `ok` = 0, and
changes nothing else (R313). -/
def Obligations.FatalFaultEntry : Prop :=
  ∀ (s : State) (c : FatalCode), s.raiseFatal c =
    { s with
      fault := match c with
        | .illegalCommand => 1
        | .invalidModulation => 2
        | .paTableLength => 3
        | .busFailure => 4
        | .verifyFail => 5
        | .freqWordOverflow => 6
        | .badOscillator => 7
        | .carrierUnset => 8
      ctl := .faulted, trace := s.trace ++ [.ctl .faulted], res := 0x0000000F, ok := false }

/-- The fatal preconditions of the commands, each checked before the first exchange and before any register write: an
oversized frequency word (R126), no carrier recorded (R181), a selected power table of the wrong length (R184), a
reserved modulation code (R202), a zero oscillator at INIT (R252). -/
def Obligations.PreconditionFaultsHaveNoOtherEffect : Prop :=
  ∀ (s faulted : State) (code : Byte),
    faulted = { s with fault := code, ctl := .faulted, trace := s.trace ++ [.ctl .faulted], res := 0x0000000F,
                       ok := false } →
    (s.ctl = .idleReady ∨ s.ctl = .receiving →
      (∀ hz osc : Word32, code = 6 → s.dev.oscHz = some osc → osc ≠ 0 →
        2 ^ 22 ≤ ⌊((min (max hz.toNat 300000000) 928000000 : Nat) : ℚ) / ((osc.toNat : ℚ) / 65536) + 1 / 2⌋₊ →
        exec (.setfreq hz) s = .next faulted) ∧
      (∀ dbm : Byte, code = 8 → s.dev.freqHz = none → exec (.setpwr dbm) s = .next faulted) ∧
      (∀ (dbm : Byte) (f : Word32) (b : Fin 4), code = 3 → s.dev.freqHz = some f →
        b = (if f.toNat ≤ 348000000 then 0 else if f.toNat ≤ 464000000 then 1 else if f.toNat ≤ 880000000 then 2
             else 3) →
        (s.cfg.paTab.get b).length ≠ (if b.val ≤ 1 then 8 else 10) → exec (.setpwr dbm) s = .next faulted) ∧
      (code = 2 → s.radio.modem.toNat % 8 = 2 ∨ s.radio.modem.toNat % 8 = 5 ∨ s.radio.modem.toNat % 8 = 6 →
        exec .setmod s = .next faulted)) ∧
    (s.ctl = .uninitialized → code = 7 → s.radio.oscHz = 0 → exec .init s = .next faulted)

/-! ## Control registers -/

/-- CFGW stores the low bits of its argument in the named register and returns them (R300). -/
def Obligations.CfgwStoresTheLowBits : Prop :=
  ∀ (s : State) (v : Word32), s.ctl = .uninitialized ∨ s.ctl = .idleReady ∨ s.ctl = .receiving →
    exec (.cfgw 0 v) s = .next { s with radio := { s.radio with oscHz := v }, ok := true, res := v } ∧
    exec (.cfgw 1 v) s = .next { s with radio := { s.radio with freqHz := v }, ok := true, res := v } ∧
    exec (.cfgw 2 v) s = .next { s with radio := { s.radio with bwHz := v }, ok := true, res := v } ∧
    exec (.cfgw 3 v) s = .next { s with radio := { s.radio with devHz := v }, ok := true, res := v } ∧
    exec (.cfgw 4 v) s = .next { s with radio := { s.radio with pwrDbm := BitVec.ofNat 8 v.toNat }, ok := true,
                                        res := BitVec.ofNat 32 (v.toNat % 256) } ∧
    exec (.cfgw 5 v) s = .next { s with radio := { s.radio with modem := BitVec.ofNat 8 v.toNat }, ok := true,
                                        res := BitVec.ofNat 32 (v.toNat % 256) } ∧
    exec (.cfgw 6 v) s = .next { s with radio := { s.radio with pkt := BitVec.ofNat 9 v.toNat }, ok := true,
                                        res := BitVec.ofNat 32 (v.toNat % 512) } ∧
    (v.toNat % 4 ≠ 3 →
      exec (.cfgw 7 v) s = .next { s with radio := { s.radio with edge := BitVec.ofNat 2 v.toNat }, ok := true,
                                          res := BitVec.ofNat 32 (v.toNat % 4) })

/-- CFGW to a read-only index, or of the reserved edge policy, fails and changes nothing (R29, R44, R300). -/
def Obligations.CfgwRejectsReadOnlyAndReserved : Prop :=
  ∀ (s : State) (idx : CsrIdx) (v : Word32), s.ctl = .uninitialized ∨ s.ctl = .idleReady ∨ s.ctl = .receiving →
    8 ≤ idx.toNat ∨ (idx = 7 ∧ v.toNat % 4 = 3) → exec (.cfgw idx v) s = .next { s with ok := false, res := 0x08 }

/-- CFGR returns the register its index names, in every controller state, and changes nothing else (R301, R35, R34). -/
def Obligations.CfgrReturnsTheRegister : Prop :=
  ∀ (s : State) (idx : CsrIdx), exec (.cfgr idx) s = .next { s with
    ok := true
    res :=
      if idx = 0 then s.radio.oscHz
      else if idx = 1 then s.radio.freqHz
      else if idx = 2 then s.radio.bwHz
      else if idx = 3 then s.radio.devHz
      else if idx = 4 then BitVec.ofInt 32 s.radio.pwrDbm.toInt
      else if idx = 5 then BitVec.ofNat 32 s.radio.modem.toNat
      else if idx = 6 then BitVec.ofNat 32 s.radio.pkt.toNat
      else if idx = 7 then BitVec.ofNat 32 s.radio.edge.toNat
      else if idx = 8 then (match s.dev.oscHz with | some v => v | none => 0)
      else if idx = 9 then (match s.dev.freqHz with | some v => v | none => 0)
      else if idx = 10 then BitVec.ofNat 32 s.dev.paSel.toNat
      else if idx = 11 then BitVec.ofNat 32 (s.dev.paBuf[0].toNat + 2 ^ 8 * s.dev.paBuf[1].toNat
        + 2 ^ 16 * s.dev.paBuf[2].toNat + 2 ^ 24 * s.dev.paBuf[3].toNat)
      else if idx = 12 then BitVec.ofNat 32 (s.dev.paBuf[4].toNat + 2 ^ 8 * s.dev.paBuf[5].toNat
        + 2 ^ 16 * s.dev.paBuf[6].toNat + 2 ^ 24 * s.dev.paBuf[7].toNat)
      else if idx = 13 then BitVec.ofNat 32
        ((match s.ctl with
          | .uninitialized => 0
          | .resetting => 1
          | .configLoading => 2
          | .verifying => 3
          | .idleReady => 4
          | .receiving => 5
          | .faulted => 6)
        + (if s.dev.oscHz = none then 0 else 16) + (if s.dev.freqHz = none then 0 else 32)
        + (if s.irqArmed then 64 else 0) + (if s.nq = 0 then 0 else 128))
      else if idx = 14 then BitVec.ofNat 32 s.fault.toNat
      else s.res }

/-! ## The SET commands -/

/-- SETFREQ on an oscillator that holds a non-zero value: the clamped target is encoded with the one rounding of R122,
the three bytes are written FREQ2 first, the clamped carrier is recorded and the word is returned. -/
def Obligations.SetfreqProgramsTheCarrier : Prop :=
  ∀ (s : State) (hz osc : Word32) (a2 a1 a0 : Answer) (rest : List Answer) (fc w : Nat),
    s.ctl = .idleReady ∨ s.ctl = .receiving → s.dev.oscHz = some osc → osc ≠ 0 →
    s.env.answers = a2 :: a1 :: a0 :: rest →
    Smooth s.cfg .write 0 a2 → Smooth s.cfg .write 0 a1 → Smooth s.cfg .write 0 a0 →
    fc = min (max hz.toNat 300000000) 928000000 → w = ⌊(fc : ℚ) / ((osc.toNat : ℚ) / 65536) + 1 / 2⌋₊ → w < 2 ^ 22 →
    exec (.setfreq hz) s = .next { s with
      dev := { s.dev with freqHz := some (BitVec.ofNat 32 fc) }
      ok := true
      res := BitVec.ofNat 32 w
      trace := s.trace
        ++ smoothEvents s.cfg .write1 (s.cfg.reg.freq2.setWidth 8) [BitVec.ofNat 8 (w / 2 ^ 16)] a2
        ++ smoothEvents s.cfg .write1 (s.cfg.reg.freq1.setWidth 8) [BitVec.ofNat 8 (w / 2 ^ 8)] a1
        ++ smoothEvents s.cfg .write1 (s.cfg.reg.freq0.setWidth 8) [BitVec.ofNat 8 w] a0
      env := s.env.used rest 3 }

/-- SETBW reads the register, replaces its high nibble by the index that the selection rule gives for the target in
hertz in the candidate table, and writes it back (R140, R144 to R146; the rule and the table are spelled out in
`BandwidthIndexIsNearest`). -/
def Obligations.SetbwReplacesTheHighNibble : Prop :=
  ∀ (s : State) (hz osc : Word32) (old : Byte) (ar aw : Answer) (rest : List Answer) (i : Nat) (new : Byte),
    s.ctl = .idleReady ∨ s.ctl = .receiving → s.dev.oscHz = some osc →
    s.env.answers = ar :: aw :: rest → ar.data = [old] →
    Smooth s.cfg .read 1 ar → Smooth s.cfg .write 0 aw →
    i = nearestSelect (bwTable osc.toNat) 0 (hz.toNat : ℚ) → new = BitVec.ofNat 8 (16 * i + old.toNat % 16) →
    exec (.setbw hz) s = .next { s with
      ok := true
      res := BitVec.ofNat 32 new.toNat
      trace := s.trace
        ++ smoothEvents s.cfg .read1 (hdr 1 0 s.cfg.reg.mdmcfg4) [] ar
        ++ smoothEvents s.cfg .write1 (s.cfg.reg.mdmcfg4.setWidth 8) [new] aw
      env := s.env.used rest 2 }

/-- SETDEV writes the byte of the selected candidate, exponent in bits 6:4 and mantissa index in bits 3:0
(R160, R163, R165). -/
def Obligations.SetdevWritesTheDeviationByte : Prop :=
  ∀ (s : State) (hz osc : Word32) (a : Answer) (rest : List Answer) (k : Nat) (d : Byte),
    s.ctl = .idleReady ∨ s.ctl = .receiving → s.dev.oscHz = some osc →
    s.env.answers = a :: rest → Smooth s.cfg .write 0 a → s.cfg.wf = true →
    k = nearestSelect (devTableOf s.cfg.devTable osc.toNat) 1 (hz.toNat : ℚ) →
    d = BitVec.ofNat 8 (16 * (k % 7) + k / 7) →
    exec (.setdev hz) s = .next { s with
      ok := true
      res := BitVec.ofNat 32 d.toNat
      trace := s.trace ++ smoothEvents s.cfg .write1 (s.cfg.reg.deviatn.setWidth 8) [d] a
      env := s.env.used rest 1 }

/-- SETPWR selects the band's table entry, stages it in slot 0 or, for on/off keying, slot 1 with a zero in the other,
and bursts all eight bytes (R180 to R186). -/
def Obligations.SetpwrStagesAndBursts : Prop :=
  ∀ (s : State) (dbm : Byte) (f : Word32) (a : Answer) (rest : List Answer) (b : Fin 4) (v : Byte),
    s.ctl = .idleReady ∨ s.ctl = .receiving → s.dev.freqHz = some f →
    s.env.answers = a :: rest → Smooth s.cfg .write 0 a →
    b = (if f.toNat ≤ 348000000 then 0 else if f.toNat ≤ 464000000 then 1 else if f.toNat ≤ 880000000 then 2 else 3) →
    (s.cfg.paTab.get b).length = (if b.val ≤ 1 then 8 else 10) →
    (s.cfg.paTab.get b)[paIndex b dbm.toInt]? = some v →
    ∀ buf : Vector Byte 8,
      buf = (if s.radio.modem.toNat % 8 = 3 then (s.dev.paBuf.set 0 0).set 1 v else (s.dev.paBuf.set 0 v).set 1 0) →
    exec (.setpwr dbm) s = .next { s with
      dev := { s.dev with paSel := BitVec.ofNat 2 b.val, paBuf := buf }
      ok := true
      res := BitVec.ofNat 32 (256 * b.val + v.toNat)
      trace := s.trace ++ smoothEvents s.cfg .writeN (hdr 0 1 s.cfg.reg.patable) buf.toList a
      env := s.env.used rest 1 }

/-- The breakpoint rule of R183: the least breakpoint at or above the power, the last entry above them all. -/
def Obligations.PowerIndexFollowsTheBreakpoints : Prop :=
  ∀ (b : Fin 4) (dbm : Int),
    paIndex b dbm =
      if b.val ≤ 1 then
        if dbm ≤ -30 then 0 else if dbm ≤ -20 then 1 else if dbm ≤ -15 then 2 else if dbm ≤ -10 then 3
        else if dbm ≤ 0 then 4 else if dbm ≤ 5 then 5 else if dbm ≤ 7 then 6 else 7
      else
        if dbm ≤ -30 then 0 else if dbm ≤ -20 then 1 else if dbm ≤ -15 then 2 else if dbm ≤ -10 then 3
        else if dbm ≤ -6 then 4 else if dbm ≤ 0 then 5 else if dbm ≤ 5 then 6 else if dbm ≤ 7 then 7
        else if dbm ≤ 10 then 8 else 9

/-- SETFREQ records its carrier last: whenever it does not succeed, `ST_FREQ_HZ` and everything else of DeviceState keep
their values (R124). SETPWR stages first: when its burst fails, `ST_PASEL` and the staging buffer keep the new values
(R185, R186); and whatever the bus does, in a drain or flush after the burst too, it ends and leaves them so, with
`BusFailure` where it does not succeed (R180, R312). -/
def Obligations.CarrierIsRecordedLastPowerIsStagedFirst : Prop :=
  (∀ (s t : State) (hz : Word32), exec (.setfreq hz) s = .next t → t.ok = false → t.dev = s.dev) ∧
  (∀ (s : State) (dbm : Byte) (f : Word32) (a : Answer) (rest : List Answer) (b : Fin 4) (v : Byte)
    (buf : Vector Byte 8),
    s.ctl = .idleReady ∨ s.ctl = .receiving → s.dev.freqHz = some f →
    s.env.answers = a :: rest → a.ok = false → a.data = [] →
    b = (if f.toNat ≤ 348000000 then 0 else if f.toNat ≤ 464000000 then 1 else if f.toNat ≤ 880000000 then 2 else 3) →
    (s.cfg.paTab.get b).length = (if b.val ≤ 1 then 8 else 10) →
    (s.cfg.paTab.get b)[paIndex b dbm.toInt]? = some v →
    buf = (if s.radio.modem.toNat % 8 = 3 then (s.dev.paBuf.set 0 0).set 1 v else (s.dev.paBuf.set 0 v).set 1 0) →
    exec (.setpwr dbm) s = .next { s with
      dev := { s.dev with paSel := BitVec.ofNat 2 b.val, paBuf := buf }
      ok := false
      res := 0x02
      trace := s.trace ++ [.bus .writeN (hdr 0 1 s.cfg.reg.patable) buf.toList a]
      env := s.env.used rest 1 }) ∧
  (∀ (s : State) (dbm : Byte) (f : Word32) (b : Fin 4) (v : Byte),
    s.ctl = .idleReady ∨ s.ctl = .receiving → s.dev.freqHz = some f →
    b = (if f.toNat ≤ 348000000 then 0 else if f.toNat ≤ 464000000 then 1 else if f.toNat ≤ 880000000 then 2 else 3) →
    (s.cfg.paTab.get b).length = (if b.val ≤ 1 then 8 else 10) →
    (s.cfg.paTab.get b)[paIndex b dbm.toInt]? = some v →
    ∃ t, exec (.setpwr dbm) s = .next t ∧ t.dev = s.dev.staged b s.radio.modem v ∧ t.radio = s.radio ∧
      t.ctl = s.ctl ∧ t.fault = s.fault ∧ (t.ok = false → t.res = 0x02))

/-- SETMOD writes the MDMCFG2 byte, then reads the front-end byte, sets its slot bit for on/off keying and clears it
otherwise, and writes it back (R200 to R206); nothing else changes, the staging buffer and `CFG_MODEM` among it
(R204, R207). -/
def Obligations.SetmodWritesBothBytes : Prop :=
  ∀ (s : State) (fe : Byte) (am ar aw : Answer) (rest : List Answer) (m2 fe2 : Byte),
    s.ctl = .idleReady ∨ s.ctl = .receiving →
    s.env.answers = am :: ar :: aw :: rest → ar.data = [fe] →
    Smooth s.cfg .write 0 am → Smooth s.cfg .read 1 ar → Smooth s.cfg .write 0 aw →
    modField s.radio.modem ≠ 0b010 → modField s.radio.modem ≠ 0b101 → modField s.radio.modem ≠ 0b110 →
    m2 = modemByte s.cfg.mdmcfg2 s.radio.modem →
    fe2 = (if modField s.radio.modem = 0b011 then fe ||| (1#8 <<< s.cfg.frend0PaBit.val)
           else fe &&& ~~~(1#8 <<< s.cfg.frend0PaBit.val)) →
    exec .setmod s = .next { s with
      ok := true
      res := BitVec.ofNat 32 (256 * fe2.toNat + m2.toNat)
      trace := s.trace
        ++ smoothEvents s.cfg .write1 (s.cfg.reg.mdmcfg2.setWidth 8) [m2] am
        ++ smoothEvents s.cfg .read1 (hdr 1 0 s.cfg.reg.frend0) [] ar
        ++ smoothEvents s.cfg .write1 (s.cfg.reg.frend0.setWidth 8) [fe2] aw
      env := s.env.used rest 3 }

/-- Under a well-formed layout the MDMCFG2 byte holds the four fields at their places, with Manchester off for 4-level
FSK whatever `CFG_MODEM.MANCH` holds (R203, R204). -/
def Obligations.ModemByteHoldsTheFourFields : Prop :=
  ∀ (l : Mdmcfg2Layout) (modem : Byte), l.wf = true →
    (modemByte l modem).toNat / 2 ^ l.dcoff % 2 = modem.toNat / 16 % 2 ∧
    (modemByte l modem).toNat / 2 ^ l.mod % 8 = modem.toNat % 8 ∧
    (modemByte l modem).toNat / 2 ^ l.manch % 2 = (if modem.toNat % 8 = 4 then 0 else modem.toNat / 8 % 2) ∧
    (modemByte l modem).toNat / 2 ^ l.sync % 8 = modem.toNat / 32

/-! ## Bus access -/

/-- WRREG to an ordinary address is one single write, whose status byte it returns (R281). Whatever status byte a
successful answer brings, the interpreter runs on it first, its drain and flush included (R17, R220, R233). -/
def Obligations.WrregWritesOneByte : Prop :=
  ∀ (s : State) (addr : Addr) (v : Byte) (a : Answer) (rest : List Answer),
    s.ctl = .idleReady ∨ s.ctl = .receiving → addr.toNat < 0x30 ∨ 0x3D < addr.toNat →
    s.env.answers = a :: rest →
    (Smooth s.cfg .write 0 a →
      exec (.wrreg addr v) s = .next { s with
        ok := true
        res := BitVec.ofNat 32 a.status.toNat
        trace := s.trace ++ smoothEvents s.cfg .write1 (BitVec.ofNat 8 addr.toNat) [v] a
        env := s.env.used rest 1 }) ∧
    (a.ok = true → a.data = [] →
      exec (.wrreg addr v) s =
        interpretedEnd .write a.status (s.exchanged .write1 (BitVec.ofNat 8 addr.toNat) [v] a rest) (fun u =>
          { u with ok := true, res := BitVec.ofNat 32 a.status.toNat }))

/-- RDREG is one single read at any address, with header `0xC0 | a` in the status range (R282, R96). Whatever status
byte a successful answer brings, the interpreter runs on it first, its drain and flush included (R17, R220, R233). -/
def Obligations.RdregReadsOneByte : Prop :=
  ∀ (s : State) (addr : Addr) (v header : Byte) (a : Answer) (rest : List Answer),
    s.ctl = .idleReady ∨ s.ctl = .receiving →
    s.env.answers = a :: rest → a.data = [v] →
    header = BitVec.ofNat 8 ((if 0x30 ≤ addr.toNat ∧ addr.toNat ≤ 0x3D then 0xC0 else 0x80) + addr.toNat) →
    (Smooth s.cfg .read 1 a →
      exec (.rdreg addr) s = .next { s with
        ok := true
        res := BitVec.ofNat 32 (256 * a.status.toNat + v.toNat)
        trace := s.trace ++ smoothEvents s.cfg .read1 header [] a
        env := s.env.used rest 1 }) ∧
    (a.ok = true →
      exec (.rdreg addr) s = interpretedEnd .read a.status (s.exchanged .read1 header [] a rest) (fun u =>
        { u with ok := true, res := BitVec.ofNat 32 (256 * a.status.toNat + v.toNat) }))

/-- WRBURST sends the first `n` bytes of the staging buffer in one burst write (R286). Whatever status byte a
successful answer brings, the interpreter runs on it first, its drain and flush included (R17, R220, R233). -/
def Obligations.WrburstSendsTheStagingBuffer : Prop :=
  ∀ (s : State) (addr : Addr) (n : Byte) (a : Answer) (rest : List Answer),
    s.ctl = .idleReady ∨ s.ctl = .receiving → addr.toNat < 0x30 ∨ 0x3D < addr.toNat → 1 ≤ n.toNat → n.toNat ≤ 8 →
    s.env.answers = a :: rest →
    (Smooth s.cfg .write 0 a →
      exec (.wrburst addr n) s = .next { s with
        ok := true
        res := BitVec.ofNat 32 (256 * a.status.toNat + n.toNat)
        trace := s.trace ++ smoothEvents s.cfg .writeN (BitVec.ofNat 8 (0x40 + addr.toNat))
          (s.dev.paBuf.toList.take n.toNat) a
        env := s.env.used rest 1 }) ∧
    (a.ok = true → a.data = [] →
      exec (.wrburst addr n) s =
        interpretedEnd .write a.status
          (s.exchanged .writeN (BitVec.ofNat 8 (0x40 + addr.toNat)) (s.dev.paBuf.toList.take n.toNat) a rest) (fun u =>
          { u with ok := true, res := BitVec.ofNat 32 (256 * a.status.toNat + n.toNat) }))

/-- RDBURST is one burst read of `n` bytes, delivered to the host after the interpretation step (R285), which runs
whatever status byte a successful answer brings, its drain and flush included (R17, R220, R233). -/
def Obligations.RdburstDeliversTheBytes : Prop :=
  ∀ (s : State) (addr : Addr) (n : Byte) (a : Answer) (rest : List Answer),
    s.ctl = .idleReady ∨ s.ctl = .receiving → addr.toNat < 0x30 ∨ 0x3D < addr.toNat → n ≠ 0 →
    s.env.answers = a :: rest →
    (Smooth s.cfg .read n.toNat a →
      exec (.rdburst addr n) s = .next { s with
        ok := true
        res := BitVec.ofNat 32 (256 * a.status.toNat + n.toNat)
        trace := s.trace ++ smoothEvents s.cfg .readN (BitVec.ofNat 8 (0xC0 + addr.toNat)) [] a
          ++ [.data .rdburst a.data]
        env := s.env.used rest 1 }) ∧
    (a.ok = true → a.data.length = n.toNat →
      exec (.rdburst addr n) s =
        interpretedEnd .read a.status (s.exchanged .readN (BitVec.ofNat 8 (0xC0 + addr.toNat)) [] a rest) (fun u =>
          { u with ok := true, res := BitVec.ofNat 32 (256 * a.status.toNat + n.toNat),
                   trace := u.trace ++ [.data .rdburst a.data] }))

/-- STROBE sends its byte as it is and leaves the controller where it was (R283). Whatever status byte a successful
answer brings, the interpreter runs on it first, its drain and flush included (R17, R220, R233). -/
def Obligations.StrobeSendsItsByte : Prop :=
  ∀ (s : State) (c : Byte) (a : Answer) (rest : List Answer),
    s.ctl = .idleReady ∨ s.ctl = .receiving → s.env.answers = a :: rest →
    (Smooth s.cfg .write 0 a →
      exec (.strobe c) s = .next { s with
        ok := true
        res := BitVec.ofNat 32 a.status.toNat
        trace := s.trace ++ smoothEvents s.cfg .strobe c [] a
        env := s.env.used rest 1 }) ∧
    (a.ok = true → a.data = [] →
      exec (.strobe c) s = interpretedEnd .write a.status (s.exchanged .strobe c [] a rest) (fun u =>
        { u with ok := true, res := BitVec.ofNat 32 a.status.toNat }))

/-- The access checks, made before any exchange and with no effect but the error: address before length
(R68, R287). -/
def Obligations.AccessChecksRejectBeforeAnyExchange : Prop :=
  ∀ (s : State) (addr : Addr) (v : Byte), s.ctl = .idleReady ∨ s.ctl = .receiving →
    (0x30 ≤ addr.toNat ∧ addr.toNat ≤ 0x3D →
      exec (.wrreg addr v) s = .next { s with ok := false, res := 0x04 } ∧
      exec (.wrburst addr v) s = .next { s with ok := false, res := 0x03 } ∧
      exec (.rdburst addr v) s = .next { s with ok := false, res := 0x03 }) ∧
    (addr.toNat < 0x30 ∨ 0x3D < addr.toNat →
      (v = 0 → exec (.rdburst addr v) s = .next { s with ok := false, res := 0x05 }) ∧
      (v = 0 ∨ 8 < v.toNat → exec (.wrburst addr v) s = .next { s with ok := false, res := 0x05 }))

/-- A failed exchange ends its command at once (R78, R233, R312). First, for each command that makes an exchange without
staging anything before it, INTERP with its drain and BEGINRX among them: when its first exchange fails, it ends with
`BusFailure` and nothing is interpreted (SETPWR's failed burst is in `CarrierIsRecordedLastPowerIsStagedFirst`). Then
for every instruction but INIT (`InitIsAllOrFaulted`), in every state: it ends (R11, R366), and of its exchanges and
those of every drain and flush a failed one is the last event, and a command then ends with `ok` = 0 and `RES` = 2, the controller and the fault latch
as they were, and DeviceState too except for SETPWR's staging. The policy BEGINRX has armed by then is that of log 32. -/
def Obligations.FailedExchangeEndsTheCommand : Prop :=
  (∀ (s : State) (addr : Addr) (v : Byte) (hz osc : Word32) (a : Answer) (rest : List Answer) (w k : Nat),
    let ended : Event → Host.Outcome State Fault Refusal := fun e =>
      .next { s with ok := false, res := 0x02, trace := s.trace ++ [e], env := s.env.used rest 1 }
    s.ctl = .idleReady ∨ s.ctl = .receiving → s.env.answers = a :: rest → a.ok = false →
    (a.data.length = 1 →
      exec (.rdreg addr) s = ended (.bus .read1 (hdr 1 0 addr) [] a) ∧
      exec (.setbw hz) s = ended (.bus .read1 (hdr 1 0 s.cfg.reg.mdmcfg4) [] a) ∧
      (drains s.cfg v .write = true →
        exec (.interpW v) s = ended (.bus .read1 (hdr 1 0 s.cfg.reg.rxbytes) [] a)) ∧
      (drains s.cfg v .read = true →
        exec (.interpR v) s = ended (.bus .read1 (hdr 1 0 s.cfg.reg.rxbytes) [] a))) ∧
    (a.data.length = v.toNat → v ≠ 0 → addr.toNat < 0x30 ∨ 0x3D < addr.toNat →
      exec (.rdburst addr v) s = ended (.bus .readN (hdr 1 1 addr) [] a)) ∧
    (a.data = [] →
      exec (.strobe v) s = ended (.bus .strobe v [] a) ∧
      (addr.toNat < 0x30 ∨ 0x3D < addr.toNat →
        exec (.wrreg addr v) s = ended (.bus .write1 (hdr 0 0 addr) [v] a) ∧
        (1 ≤ v.toNat → v.toNat ≤ 8 →
          exec (.wrburst addr v) s = ended (.bus .writeN (hdr 0 1 addr) (s.dev.paBuf.toList.take v.toNat) a))) ∧
      (s.dev.oscHz = some osc → osc ≠ 0 →
        w = ⌊((min (max hz.toNat 300000000) 928000000 : Nat) : ℚ) / ((osc.toNat : ℚ) / 65536) + 1 / 2⌋₊ → w < 2 ^ 22 →
        exec (.setfreq hz) s = ended (.bus .write1 (hdr 0 0 s.cfg.reg.freq2) [BitVec.ofNat 8 (w / 2 ^ 16)] a)) ∧
      (s.dev.oscHz = some osc → s.cfg.wf = true →
        k = nearestSelect (devTableOf s.cfg.devTable osc.toNat) 1 (hz.toNat : ℚ) →
        exec (.setdev hz) s =
          ended (.bus .write1 (hdr 0 0 s.cfg.reg.deviatn) [BitVec.ofNat 8 (16 * (k % 7) + k / 7)] a)) ∧
      (modReserved (modField s.radio.modem) = false →
        exec .setmod s =
          ended (.bus .write1 (hdr 0 0 s.cfg.reg.mdmcfg2) [modemByte s.cfg.mdmcfg2 s.radio.modem] a)) ∧
      (s.ctl = .idleReady →
        exec .beginrx s = .next { s with
          irqArmed := true
          irqPolicy := s.radio.edge
          ok := false
          res := 0x02
          trace := s.trace ++ [.gpio (.armInterrupt s.radio.edge), .gpio .installHandler,
            .bus .strobe s.cfg.stb.srx [] a]
          env := s.env.used rest 1 }))) ∧
  (∀ (i : Instr) (s : State), i ≠ .init →
    ∃ t new, exec i s = .next t ∧ t.trace = s.trace ++ new ∧ failedOnlyLast new ∧
      ((∃ e ∈ new, e.failedExchange = true) → isCommand i = true →
        t.ok = false ∧ t.res = 0x02 ∧ t.ctl = s.ctl ∧ t.fault = s.fault ∧
        ((∀ dbm, i ≠ .setpwr dbm) → t.dev = s.dev)))

/-- Whatever the status bytes, drains and flushes included: while the bus answers every exchange, a command that is
admitted, whose operands pass their checks and whose preconditions hold ends with `ok` = 1, and leaves DeviceState as
the command says: SETFREQ records the clamped carrier (R124), SETPWR stages its band and table byte (R182 to R185), the
others change nothing of it. -/
def Obligations.CommandsCompleteWhileTheBusAnswers : Prop :=
  ∀ (s : State) (i : Instr), s.ctl = .idleReady ∨ s.ctl = .receiving →
    12 ≤ s.env.answers.length → (∀ a ∈ s.env.answers, a.ok = true) →
    (match i with
      | .setfreq hz => ∃ osc : Word32, s.dev.oscHz = some osc ∧ osc ≠ 0 ∧ encFreq (clampHz hz.toNat) osc.toNat < 2 ^ 22
      | .setbw _ => True
      | .setdev _ => True
      | .setpwr _ => ∃ f : Word32, s.dev.freqHz = some f ∧
          (s.cfg.paTab.get (band f.toNat)).length = paLen (band f.toNat)
      | .setmod => modReserved (modField s.radio.modem) = false
      | .wrreg a _ => isStatus a = false
      | .rdreg _ => True
      | .wrburst a n => isStatus a = false ∧ 1 ≤ n.toNat ∧ n.toNat ≤ 8
      | .rdburst a n => isStatus a = false ∧ 1 ≤ n.toNat
      | .interpW _ => True
      | .interpR _ => True
      | .strobe _ => True
      | _ => False) →
    ∃ t, exec i s = .next t ∧ t.ok = true ∧ t.ctl = s.ctl ∧ t.fault = s.fault ∧ t.radio = s.radio ∧
      (match i with
        | .setfreq hz =>
          t.dev = { s.dev with freqHz := some (BitVec.ofNat 32 (min (max hz.toNat 300000000) 928000000)) }
        | .setpwr dbm => ∀ (f : Word32) (b : Fin 4) (v : Byte), s.dev.freqHz = some f →
          b = (if f.toNat ≤ 348000000 then 0 else if f.toNat ≤ 464000000 then 1 else if f.toNat ≤ 880000000 then 2
               else 3) →
          (s.cfg.paTab.get b)[paIndex b dbm.toInt]? = some v → t.dev = s.dev.staged b s.radio.modem v
        | _ => t.dev = s.dev)

/-! ## The status interpreter -/

/-- INTERP on a status byte that does not drain returns its count, state code and action, and logs the four "other"
states (R226 to R228, R235). -/
def Obligations.InterpWithoutADrain : Prop :=
  ∀ (s : State) (status : Byte), s.ctl = .idleReady ∨ s.ctl = .receiving →
    (drains s.cfg status .write = false →
      exec (.interpW status) s = .next { s with
        ok := true
        res := BitVec.ofNat 32 ((if statusLog s.cfg status = [] then 0 else 256) + status.toNat % 128)
        trace := s.trace ++ statusLog s.cfg status }) ∧
    (drains s.cfg status .read = false →
      exec (.interpR status) s = .next { s with
        ok := true
        res := BitVec.ofNat 32 ((if statusLog s.cfg status = [] then 0 else 256) + status.toNat % 128)
        trace := s.trace ++ statusLog s.cfg status })

/-- INTERP.R in receive mode with bytes available: the byte count is read and reconciled, and that many bytes are read
from the FIFO in one burst and handed to the host; a reconciled count of 0 reads nothing (R226, R229). -/
def Obligations.InterpReadDrainsInReceiveMode : Prop :=
  ∀ (s : State) (status r : Byte) (ac : Answer) (rest : List Answer) (n : Nat),
    s.ctl = .idleReady ∨ s.ctl = .receiving → chipState s.cfg status = .rx → status.toNat % 16 ≠ 0 →
    s.env.answers = ac :: rest → ac.ok = true → ac.data = [r] → n = drainCount s.cfg r ac.status →
    (n = 0 →
      exec (.interpR status) s = .next { s with
        ok := true
        res := BitVec.ofNat 32 (2 * 256 + status.toNat % 128)
        trace := s.trace ++ [.bus .read1 (hdr 1 0 s.cfg.reg.rxbytes) [] ac]
        env := s.env.used rest 1 }) ∧
    (∀ (af : Answer) (rest' : List Answer), 0 < n → rest = af :: rest' → af.ok = true → af.data.length = n →
      exec (.interpR status) s = .next { s with
        ok := true
        res := BitVec.ofNat 32 (2 * 256 + status.toNat % 128)
        trace := s.trace ++ [.bus .read1 (hdr 1 0 s.cfg.reg.rxbytes) [] ac,
          .bus .readN (hdr 1 1 s.cfg.reg.rxfifo) [] af, .data .drain af.data]
        env := s.env.used rest' 2 })

/-- INTERP on a receive-FIFO overflow, whatever the trigger and the count: drain, then the flush strobe; a reconciled
count of 0 reads nothing from the FIFO, and the flush strobe is sent all the same (R226, R229, R231). -/
def Obligations.InterpOverflowDrainsAndFlushes : Prop :=
  ∀ (s : State) (i : Instr) (status r : Byte) (ac : Answer) (rest : List Answer) (n : Nat),
    i = .interpW status ∨ i = .interpR status →
    s.ctl = .idleReady ∨ s.ctl = .receiving → chipState s.cfg status = .rxFifoOverflow →
    s.env.answers = ac :: rest → ac.ok = true → ac.data = [r] → n = drainCount s.cfg r ac.status →
    (∀ (ax : Answer) (rest' : List Answer), n = 0 → rest = ax :: rest' → ax.ok = true → ax.data = [] →
      exec i s = .next { s with
        ok := true
        res := BitVec.ofNat 32 (3 * 256 + status.toNat % 128)
        trace := s.trace ++ [.bus .read1 (hdr 1 0 s.cfg.reg.rxbytes) [] ac, .bus .strobe s.cfg.stb.sfrx [] ax]
        env := s.env.used rest' 2 }) ∧
    (∀ (af ax : Answer) (rest' : List Answer), 0 < n → rest = af :: ax :: rest' → af.ok = true → ax.ok = true →
      af.data.length = n → ax.data = [] →
      exec i s = .next { s with
        ok := true
        res := BitVec.ofNat 32 (3 * 256 + status.toNat % 128)
        trace := s.trace ++ [.bus .read1 (hdr 1 0 s.cfg.reg.rxbytes) [] ac,
          .bus .readN (hdr 1 1 s.cfg.reg.rxfifo) [] af, .data .drain af.data, .bus .strobe s.cfg.stb.sfrx [] ax]
        env := s.env.used rest' 3 })

/-- The drain's default reconciliation: the register's masked count where the live count is saturated, else the smaller
of the two (R230). -/
def Obligations.DrainCountReconcilesBothSources : Prop :=
  ∀ (c : Config) (r status : Byte), c.reconcile = .default →
    drainCount c r status =
      if status.toNat % 16 = 15 then (r &&& c.rxbytesMask).toNat
      else min (r &&& c.rxbytesMask).toNat (status.toNat % 16)

/-- The drain and flush of the interpreter are the four-state machine of R234: run from `SI_COUNT`, it is back in
`SI_IDLE` after at most three exchanges, in the interpreter's own end state, with success exactly when the interpreter
goes on. -/
def Obligations.InterpreterIsTheFourStateMachine : Prop :=
  ∀ (s : State) (status : Byte) (trig : Trigger), drains s.cfg status trig = true →
    let overflow := decide (chipState s.cfg status = .rxFifoOverflow)
    let r := siRun overflow 3 .count s
    r.1 = .idle ∧ (interp status trig s).state = r.2.2 ∧
      (r.2.1 = true ↔ ∃ act u, interp status trig s = .go act u)

/-- One call of the interpreter issues at most three exchanges (R232), and none unless the status byte drains. -/
def Obligations.InterpreterIssuesAtMostThreeExchanges : Prop :=
  ∀ (s : State) (status : Byte) (trig : Trigger), ∃ new,
    (interp status trig s).state.trace = s.trace ++ new ∧ (new.filter Event.isBus).length ≤ 3 ∧
    (drains s.cfg status trig = false → new.filter Event.isBus = [])

/-- Bit 7 of a status byte has no effect on the interpreter (R97). -/
def Obligations.StatusBitSevenHasNoEffect : Prop :=
  ∀ (s : State) (x y : Byte) (trig : Trigger), x.toNat % 128 = y.toNat % 128 → interp x trig s = interp y trig s

/-! ## The controller -/

/-- INIT from Uninitialized, under a well-formed configuration, when the two ready-waits end and every exchange succeeds
without a drain. When the identification registers read 0x00 and 0x14 the block is IdleReady with its derived
registers, and returns 0x1400. Event by event: the reset sequence, then R254's steps 1 to 8 in their order, the
deviation of step 5 skipped for on/off keying (R255), then both identification reads, and only then the comparison:
ready when they match, Faulted with code 5 when they do not (R250 to R257). How the levels of the line and the answers
are held is the model's choice (logs 11, 13). -/
def Obligations.InitBringsTheBlockUp : Prop :=
  ∀ (s : State) (m n : Nat) (levels : List Bool) (rest : List Answer) (p v : Answer) (fc w : Nat) (b : Fin 4)
    (entry : Byte) (buf : Vector Byte 8) (dev : DevState),
    s.ctl = .uninitialized → s.cfg.wf = true → s.radio.oscHz ≠ 0 →
    s.env.levels = List.replicate m true ++ false :: (List.replicate n true ++ false :: levels) →
    fc = min (max s.radio.freqHz.toNat 300000000) 928000000 →
    w = ⌊(fc : ℚ) / ((s.radio.oscHz.toNat : ℚ) / 65536) + 1 / 2⌋₊ → w < 2 ^ 22 →
    b = (if fc ≤ 348000000 then 0 else if fc ≤ 464000000 then 1 else if fc ≤ 880000000 then 2 else 3) →
    (s.cfg.paTab.get b).length = (if b.val ≤ 1 then 8 else 10) →
    (s.cfg.paTab.get b)[paIndex b s.radio.pwrDbm.toInt]? = some entry →
    modReserved (modField s.radio.modem) = false →
    buf = (if isOok s.radio.modem then (s.dev.paBuf.set 0 0).set 1 entry else (s.dev.paBuf.set 0 entry).set 1 0) →
    dev = { oscHz := some s.radio.oscHz, freqHz := some (BitVec.ofNat 32 fc), paSel := BitVec.ofNat 2 b.val,
            paBuf := buf } →
    (∀ body : List Answer,
      s.env.answers = body ++ p :: v :: rest → body.length = initExchanges s →
      (∀ a ∈ body ++ [p, v], a.ok = true ∧ drains s.cfg a.status .read = false) →
      p.data = [0x00] → v.data = [0x14] →
      ∃ trace, exec .init s = .next { s with
        dev := dev
        ctl := .idleReady
        ok := true
        res := 0x00001400
        trace := s.trace ++ trace
        env := { s.env with answers := rest, levels := levels, fresh := s.env.fresh + initExchanges s + 2 } }) ∧
    (∀ (sres f2 f1 f0 bwR bwW pa md feR feW : Answer) (fixed pre devW post : List Answer)
      (old fe pn ver new fe2 : Byte) (i k : Nat) (good : Bool),
      s.env.answers = [sres] ++ fixed ++ pre ++ [f2, f1, f0, bwR, bwW] ++ devW ++ [pa, md, feR, feW] ++ post
        ++ [p, v] ++ rest →
      fixed.length = s.cfg.fixedRegs.length → pre.length = (pktPreOf s.cfg s.radio).length →
      devW.length = (if isOok s.radio.modem then 0 else 1) → post.length = (pktPostOf s.cfg s.radio).length →
      (∀ a ∈ [sres] ++ fixed ++ pre ++ [f2, f1, f0, bwW] ++ devW ++ [pa, md, feW] ++ post,
        Smooth s.cfg .write 0 a) →
      (∀ a ∈ [bwR, feR, p, v], Smooth s.cfg .read 1 a) →
      bwR.data = [old] → feR.data = [fe] → p.data = [pn] → v.data = [ver] →
      i = nearestSelect (bwTable s.radio.oscHz.toNat) 0 (s.radio.bwHz.toNat : ℚ) →
      new = BitVec.ofNat 8 (16 * i + old.toNat % 16) →
      k = nearestSelect (devTableOf s.cfg.devTable s.radio.oscHz.toNat) 1 (s.radio.devHz.toNat : ℚ) →
      fe2 = (if isOok s.radio.modem then fe ||| (1#8 <<< s.cfg.frend0PaBit.val)
             else fe &&& ~~~(1#8 <<< s.cfg.frend0PaBit.val)) →
      good = decide (pn = 0x00 ∧ ver = 0x14) →
      exec .init s = .next { s with
        dev := dev
        ctl := if good then .idleReady else .faulted
        fault := if good then s.fault else 0x05
        ok := good
        res := if good then 0x00001400 else 0x0000000F
        trace := s.trace
          ++ [.ctl .resetting, .line (.clockSet true), .line (.dataOutSet false), .line .csAssert, .delay 40,
              .line .csDeassert]
          ++ waitEvents m ++ smoothEvents s.cfg .strobe s.cfg.stb.sres [] sres ++ waitEvents n
          ++ [.ctl .configLoading]
          ++ writeEvents s.cfg s.cfg.fixedRegs fixed
          ++ writeEvents s.cfg (pktPreOf s.cfg s.radio) pre
          ++ smoothEvents s.cfg .write1 (hdr 0 0 s.cfg.reg.freq2) [BitVec.ofNat 8 (w / 2 ^ 16)] f2
          ++ smoothEvents s.cfg .write1 (hdr 0 0 s.cfg.reg.freq1) [BitVec.ofNat 8 (w / 2 ^ 8)] f1
          ++ smoothEvents s.cfg .write1 (hdr 0 0 s.cfg.reg.freq0) [BitVec.ofNat 8 w] f0
          ++ smoothEvents s.cfg .read1 (hdr 1 0 s.cfg.reg.mdmcfg4) [] bwR
          ++ smoothEvents s.cfg .write1 (hdr 0 0 s.cfg.reg.mdmcfg4) [new] bwW
          ++ writeEvents s.cfg [(s.cfg.reg.deviatn, BitVec.ofNat 8 (16 * (k % 7) + k / 7))] devW
          ++ smoothEvents s.cfg .writeN (hdr 0 1 s.cfg.reg.patable) buf.toList pa
          ++ smoothEvents s.cfg .write1 (hdr 0 0 s.cfg.reg.mdmcfg2) [modemByte s.cfg.mdmcfg2 s.radio.modem] md
          ++ smoothEvents s.cfg .read1 (hdr 1 0 s.cfg.reg.frend0) [] feR
          ++ smoothEvents s.cfg .write1 (hdr 0 0 s.cfg.reg.frend0) [fe2] feW
          ++ writeEvents s.cfg (pktPostOf s.cfg s.radio) post
          ++ [.ctl .verifying]
          ++ smoothEvents s.cfg .read1 (hdr 1 0 s.cfg.reg.partnum) [] p
          ++ smoothEvents s.cfg .read1 (hdr 1 0 s.cfg.reg.version) [] v
          ++ [.ctl (if good then .idleReady else .faulted)]
        env := { s.env with answers := rest, levels := levels, fresh := s.env.fresh + initExchanges s + 2 } })

/-- The beginning of INIT's trace: the reset sequence of R253 in its order, with the levels read, the reset strobe
between the two ready-waits, and the controller's first two moves around it. -/
def Obligations.InitRunsTheResetSequence : Prop :=
  ∀ (s t : State) (m n : Nat) (levels : List Bool) (a : Answer) (rest : List Answer),
    s.ctl = .uninitialized → s.radio.oscHz ≠ 0 →
    s.env.levels = List.replicate m true ++ false :: (List.replicate n true ++ false :: levels) →
    s.env.answers = a :: rest → Smooth s.cfg .write 0 a → exec .init s = .next t →
    ∃ tail, t.trace = s.trace
      ++ [.ctl .resetting, .line (.clockSet true), .line (.dataOutSet false), .line .csAssert, .delay 40,
          .line .csDeassert]
      ++ List.replicate m (.line (.dataInRead true)) ++ [.line (.dataInRead false)]
      ++ smoothEvents s.cfg .strobe s.cfg.stb.sres [] a
      ++ List.replicate n (.line (.dataInRead true)) ++ [.line (.dataInRead false)]
      ++ [.ctl .configLoading] ++ tail

/-- How INIT ends from Uninitialized, whatever the environment does: ready with 0x1400; or Faulted with its cause; or the
hang of a ready-wait; never a local failure, never half (R11, R250). It is ready only when the oscillator is not zero,
the frequency word, the table and the modulation fit, no exchange failed, and both identification bytes were right. The
causes, in the order in which INIT comes to them: 7 exactly for a zero oscillator (R252); 6 only for an oversized word
(R126); 3 only for a table of the wrong length (R184); 2 only for a reserved modulation (R202, R255); 5 only after both
identification registers were read, one byte wrong (R257); and 4 exactly when an exchange failed, in a drain or a flush
too, which is then the last event before the fault (R256). -/
def Obligations.InitIsAllOrFaulted : Prop :=
  ∀ s : State, s.ctl = .uninitialized →
    (∃ t new p v, exec .init s = .next t ∧ t.ok = true ∧ t.res = 0x1400 ∧ t.ctl = .idleReady ∧ t.fault = s.fault ∧
      t.dev.oscHz = some s.radio.oscHz ∧ t.frqv = true ∧
      t.trace = s.trace ++ new ++ [.ctl .idleReady] ∧ (∀ e ∈ new, e.failedExchange = false) ∧
      s.radio.oscHz ≠ 0 ∧ initWordFits s ∧ initTableFits s ∧ initModulationFits s ∧
      identified s new p v ∧ p.data = [0x00] ∧ v.data = [0x14]) ∨
    (∃ t new, exec .init s = .next t ∧ t.ok = false ∧ t.res = 0xF ∧ t.ctl = .faulted ∧ 2 ≤ t.fault.toNat ∧
      t.fault.toNat ≤ 7 ∧
      t.trace = s.trace ++ new ++ [.ctl .faulted] ∧
      failedOnlyLast new ∧ (t.fault = 4 ↔ ∃ e ∈ new, e.failedExchange = true) ∧
      (t.fault = 7 ↔ s.radio.oscHz = 0) ∧
      (t.fault = 6 → ¬ initWordFits s) ∧
      (t.fault = 3 → initWordFits s ∧ ¬ initTableFits s) ∧
      (t.fault = 2 → initWordFits s ∧ initTableFits s ∧ ¬ initModulationFits s) ∧
      (t.fault = 5 → initWordFits s ∧ initTableFits s ∧ initModulationFits s ∧
        ∃ p v, identified s new p v ∧ ¬ (p.data = [0x00] ∧ v.data = [0x14]))) ∨
    (exec .init s = .fault .hang ∧ s.radio.oscHz ≠ 0)

/-- BEGINRX succeeds at the first of three strobes whose status byte shows receive mode, with a delay between attempts;
it arms the interrupt first, with `CFG_EDGE` as it stands (R258 to R260; the model's choice against R302, log 32). The
second clause takes in every successful answer: a strobe answered by an overflow drains and flushes, and is then
followed by the delay and the next strobe like any other (R220, R260). -/
def Obligations.BeginrxEntersReceive : Prop :=
  (∀ (s : State) (tried : List Answer) (a : Answer) (rest : List Answer),
    s.ctl = .idleReady → tried.length < 3 → s.env.answers = tried ++ a :: rest →
    (∀ x ∈ tried, Smooth s.cfg .write 0 x ∧ chipState s.cfg x.status ≠ .rx) →
    Smooth s.cfg .write 0 a → chipState s.cfg a.status = .rx →
    exec .beginrx s = .next { s with
      ctl := .receiving
      irqArmed := true
      irqPolicy := s.radio.edge
      ok := true
      res := BitVec.ofNat 32 (tried.length + 1)
      trace := s.trace ++ [.gpio (.armInterrupt s.radio.edge), .gpio .installHandler]
        ++ tried.flatMap (fun x => smoothEvents s.cfg .strobe s.cfg.stb.srx [] x ++ [.delay 40])
        ++ smoothEvents s.cfg .strobe s.cfg.stb.srx [] a ++ [.ctl .receiving]
      env := s.env.used rest (tried.length + 1) }) ∧
  (∀ (s u v : State) (tried : List Answer) (a : Answer),
    s.ctl = .idleReady → tried.length < 3 → strobedInVain tried s.armedFor u → strobed a u v →
    chipState s.cfg a.status = .rx →
    exec .beginrx s = .next { v with
      ctl := .receiving
      ok := true
      res := BitVec.ofNat 32 (tried.length + 1)
      trace := v.trace ++ [.ctl .receiving] })

/-- BEGINRX after three strobes without receive mode: a logged local failure, the controller still IdleReady, the
interrupt still armed (R259, R260; the policy it is armed with: log 32). The second clause takes in every successful
answer, those that drain and flush too (R220, R260). -/
def Obligations.BeginrxExhaustsItsTries : Prop :=
  (∀ (s : State) (a b c : Answer) (rest : List Answer),
    s.ctl = .idleReady → s.env.answers = a :: b :: c :: rest →
    (∀ x ∈ [a, b, c], Smooth s.cfg .write 0 x ∧ chipState s.cfg x.status ≠ .rx) →
    exec .beginrx s = .next { s with
      irqArmed := true
      irqPolicy := s.radio.edge
      ok := false
      res := 0x06
      trace := s.trace ++ [.gpio (.armInterrupt s.radio.edge), .gpio .installHandler]
        ++ smoothEvents s.cfg .strobe s.cfg.stb.srx [] a ++ [.delay 40]
        ++ smoothEvents s.cfg .strobe s.cfg.stb.srx [] b ++ [.delay 40]
        ++ smoothEvents s.cfg .strobe s.cfg.stb.srx [] c ++ [.log .rxEntryFail]
      env := s.env.used rest 3 }) ∧
  (∀ (s u v : State) (a b c : Answer),
    s.ctl = .idleReady → strobedInVain [a, b] s.armedFor u → strobed c u v → chipState s.cfg c.status ≠ .rx →
    exec .beginrx s = .next { v with ok := false, res := 0x06, trace := v.trace ++ [.log .rxEntryFail] })

/-- However the chip answers, BEGINRX from IdleReady ends: Receiving after 1 to 3 strobes, or a local failure that
leaves the controller IdleReady and never faults; either way the interrupt is armed (R259 to R261; the policy: log 32). -/
def Obligations.BeginrxNeverFaults : Prop :=
  ∀ s : State, s.ctl = .idleReady →
    ∃ t, exec .beginrx s = .next t ∧ t.irqArmed = true ∧ t.irqPolicy = s.radio.edge ∧ t.fault = s.fault ∧
      t.nq = s.nq ∧ t.radio = s.radio ∧ t.dev = s.dev ∧
      ((t.ok = true ∧ t.ctl = .receiving ∧ 1 ≤ t.res.toNat ∧ t.res.toNat ≤ 3) ∨
       (t.ok = false ∧ t.ctl = .idleReady ∧ (t.res = 0x02 ∨ t.res = 0x06)))

/-- UPDATE takes a waiting notification at once; on an empty queue it times out when the interrupt is not armed, and
otherwise does what the environment chooses: an edge first, or the timeout. It always ends, the environment having
decided or not (R263). How the choice is held is the model's (log 14). -/
def Obligations.UpdateTakesOrWaits : Prop :=
  ∀ s : State, s.ctl = .idleReady ∨ s.ctl = .receiving →
    (s.nq ≠ 0 → exec .update s = .next { s with nq := s.nq - 1, ok := true, res := 1 }) ∧
    (s.nq = 0 → s.irqArmed = false → exec .update s = .next { s with ok := false, res := 0x07 }) ∧
    (∀ (edge : Bool) (rest : List Bool), s.nq = 0 → s.irqArmed = true → s.env.waits = edge :: rest →
      exec .update s = .next { s with
        ok := edge
        res := if edge then 1 else 0x07
        env := { s.env with waits := rest, fresh := s.env.fresh + 1 } }) ∧
    (s.nq = 0 → s.irqArmed = true → ∃ edge : Bool,
      exec .update s = .next { s with
        ok := edge
        res := if edge then 1 else 0x07
        env := { s.env with waits := s.env.waits.tail, fresh := s.env.fresh + 1 } })

/-! ## The bus header rows -/

/-- Each bus header row is its bus primitive: one exchange with that header byte, then the interpreter; no completion,
no register (R63 to R67, R96). That a frame can be presented to the block is the model's choice (log 20). The statement
takes in terms that `Instr.wf` rejects and no decoder answers (a write in the status range, an empty payload, a read of
length 0): there it says what the model chose for them, an exchange with the header byte all the same (log 21). The
last clause takes in every successful answer: the interpreter runs on its status byte, its drain and flush included,
and whatever of it succeeds or fails, the row leaves the state the interpreter leaves (R220, R226). -/
def Obligations.HeaderRowsAreOneExchange : Prop :=
  ∀ (s : State) (addr : Addr) (v n : Byte) (payload : List Byte) (a : Answer) (rest : List Answer),
    s.env.answers = a :: rest →
    (Smooth s.cfg .write 0 a →
      exec (.hdrWrite1 addr v) s = .next { s with
        trace := s.trace ++ smoothEvents s.cfg .write1 (BitVec.ofNat 8 addr.toNat) [v] a
        env := s.env.used rest 1 } ∧
      exec (.hdrWriteN addr payload) s = .next { s with
        trace := s.trace ++ smoothEvents s.cfg .writeN (BitVec.ofNat 8 (0x40 + addr.toNat)) payload a
        env := s.env.used rest 1 }) ∧
    (addr.toNat < 0x30 ∨ 0x3D < addr.toNat →
      (Smooth s.cfg .read 1 a →
        exec (.hdrRead1 addr) s = .next { s with
          trace := s.trace ++ smoothEvents s.cfg .read1 (BitVec.ofNat 8 (0x80 + addr.toNat)) [] a
          env := s.env.used rest 1 }) ∧
      (Smooth s.cfg .read n.toNat a →
        exec (.hdrReadN addr n) s = .next { s with
          trace := s.trace ++ smoothEvents s.cfg .readN (BitVec.ofNat 8 (0xC0 + addr.toNat)) [] a
          env := s.env.used rest 1 })) ∧
    (0x30 ≤ addr.toNat ∧ addr.toNat ≤ 0x3D → Smooth s.cfg .read 1 a →
      exec (.hdrReadN addr 1) s = .next { s with
        trace := s.trace ++ smoothEvents s.cfg .read1 (BitVec.ofNat 8 (0xC0 + addr.toNat)) [] a
        env := s.env.used rest 1 }) ∧
    (a.ok = true →
      (a.data = [] →
        exec (.hdrWrite1 addr v) s = .next (interp a.status .write
          (s.exchanged .write1 (BitVec.ofNat 8 addr.toNat) [v] a rest)).state ∧
        exec (.hdrWriteN addr payload) s = .next (interp a.status .write
          (s.exchanged .writeN (BitVec.ofNat 8 (0x40 + addr.toNat)) payload a rest)).state) ∧
      (addr.toNat < 0x30 ∨ 0x3D < addr.toNat →
        (a.data.length = 1 →
          exec (.hdrRead1 addr) s = .next (interp a.status .read
            (s.exchanged .read1 (BitVec.ofNat 8 (0x80 + addr.toNat)) [] a rest)).state) ∧
        (a.data.length = n.toNat →
          exec (.hdrReadN addr n) s = .next (interp a.status .read
            (s.exchanged .readN (BitVec.ofNat 8 (0xC0 + addr.toNat)) [] a rest)).state)) ∧
      (0x30 ≤ addr.toNat ∧ addr.toNat ≤ 0x3D → a.data.length = 1 →
        exec (.hdrReadN addr 1) s = .next (interp a.status .read
          (s.exchanged .read1 (BitVec.ofNat 8 (0xC0 + addr.toNat)) [] a rest)).state))

/-! ## The encoders -/

/-- The frequency encoder rounds the quotient once, an exact half up (R122); it is within half a step of its carrier,
and monotone (R127). -/
def Obligations.FrequencyWordIsWithinHalfAStep : Prop :=
  (∀ fc osc : Nat, 0 < osc → encFreq fc osc = ⌊(fc : ℚ) / ((osc : ℚ) / 65536) + 1 / 2⌋₊) ∧
  (∀ fc osc : Nat, 0 < osc → encFreq fc osc < 2 ^ 22 →
    |(encFreq fc osc : ℚ) * osc / 65536 - fc| ≤ (osc : ℚ) / 131072) ∧
  (∀ fc fc' osc : Nat, 0 < osc → fc ≤ fc' → encFreq fc osc ≤ encFreq fc' osc)

/-- When the frequency word overflows: never at 26 MHz, for 928 MHz exactly up to 14 500 001 Hz, for every target
exactly up to 4 687 500 Hz (R126). -/
def Obligations.FrequencyOverflowBounds : Prop :=
  (∀ hz : Nat, encFreq (clampHz hz) 26000000 ≤ 2339131) ∧
  (∀ osc : Nat, 0 < osc → (2 ^ 22 ≤ encFreq 928000000 osc ↔ osc ≤ 14500001)) ∧
  (∀ osc : Nat, 0 < osc → ((∀ hz : Nat, 2 ^ 22 ≤ encFreq (clampHz hz) osc) ↔ osc ≤ 4687500))

/-- The selection rule on any table: the last index when no entry from the start on is below the target, and otherwise
the first such entry or its predecessor, the nearer of the two, the predecessor on a tie (R143). The bandwidth table,
entry by entry, in hertz (R141, R142). On it the rule returns the index of a nearest candidate, the smallest such
index, from either start of the scan, and the merge keeps the low nibble (R147). -/
def Obligations.BandwidthIndexIsNearest : Prop :=
  (∀ (table : List ℚ) (start : Nat) (t : ℚ),
    ((∀ j, start ≤ j → ∀ x, table[j]? = some x → t ≤ x) → nearestSelect table start t = table.length - 1) ∧
    (∀ (k : Nat) (x : ℚ), start ≤ k → table[k]? = some x → x < t →
      (∀ j, start ≤ j → j < k → ∀ y, table[j]? = some y → t ≤ y) →
      (k = 0 → nearestSelect table start t = 0) ∧
      (∀ y, k ≠ 0 → table[k - 1]? = some y →
        nearestSelect table start t = if |t - y| ≤ |t - x| then k - 1 else k))) ∧
  (∀ osc : Nat, (bwTable osc).length = 16 ∧
    ∀ e m : Nat, e < 4 → m < 4 → (bwTable osc)[4 * e + m]? = some ((osc : ℚ) / (8 * (4 + m) * 2 ^ e))) ∧
  (∀ (osc : Nat) (t : ℚ) (i : Nat) (cand : Nat → ℚ), 0 < osc → 0 ≤ t →
    (∀ e m : Nat, e < 4 → m < 4 → cand (4 * e + m) = (osc : ℚ) / (8 * (4 + m) * 2 ^ e)) →
    i = nearestSelect (bwTable osc) 0 t →
    i < 16 ∧
    (∀ j, j < 16 → |t - cand i| ≤ |t - cand j|) ∧
    (∀ j, j < 16 → |t - cand j| = |t - cand i| → i ≤ j) ∧
    nearestSelect (bwTable osc) 1 t = i) ∧
  (∀ (i : Nat) (old : Byte), i < 16 →
    (merge4 i old).toNat % 16 = old.toNat % 16 ∧ (merge4 i old).toNat / 16 = i)

/-- The deviation table of a configuration: by default 56 entries in hertz, seven to a row, the first of each row
multiplied and the others divided (R6, R161, R162); overridden, the entries given (R167). And the anomaly of the
default table at 26 MHz, kept and documented: every target above entry 1 gives index 0 or 1, the split at the midpoint
of entries 0 and 1, and nothing below the last entry gives index 55 (R166). -/
def Obligations.DeviationAnomaly : Prop :=
  (∀ osc : Nat, (devTableOf .formula osc).length = 56 ∧
    ∀ m e : Nat, m < 8 → e < 7 → (devTableOf .formula osc)[7 * m + e]? =
      some (if e = 0 then (osc : ℚ) / 131072 * (8 + m) else (osc : ℚ) / 131072 / ((8 + m) * 2 ^ e))) ∧
  (∀ (entries : List ℚ) (osc : Nat), devTableOf (.entries entries) osc = entries) ∧
  Config.suggested.devTable = .formula ∧
  (∀ t : ℚ, 203125 / 16384 < t →
    nearestSelect (devTableOf .formula 26000000) 1 t =
      if (203125 / 128 + 203125 / 16384) / 2 ≤ t then 0 else 1) ∧
  (∀ t : ℚ, t ≤ 40625 / 196608 → nearestSelect (devTableOf .formula 26000000) 1 t = 55)

/-- The two fields of every status byte: the count is its low four bits, and the chip state is the entry of `STATE_MAP`
at the three bits above them (R97, R221); the default map is DOC0's list in its order (R98). And DOC0's worked example
under every well-formed configuration: 0x17 decodes to receive mode with count 7, deferred on the write path, drained
on the read path. -/
def Obligations.StatusByte17IsReceiveSeven : Prop :=
  (∀ (c : Config) (status : Byte) (code : Fin 8), code.val = status.toNat / 16 % 8 →
    (statusCount status).toNat = status.toNat % 16 ∧ chipState c status = c.stateMap.get code) ∧
  Config.suggested.stateMap.toList =
    [.idle, .rx, .tx, .rxFifoOverflow, .txFifoOverflow, .calibrate, .settling, .rxAbort] ∧
  (∀ c : Config, c.wf = true →
    statusCount 0x17 = 7 ∧ chipState c 0x17 = .rx ∧ drains c 0x17 .write = false ∧ drains c 0x17 .read = true)
end

