-- ==== Sys2Proof/Laws/Encoding.lean ====
section
/-! SUPPORT. The number a command word is, from its fields, and the number each field of a word is. -/

namespace Sys2Proof

/-- A command word as a number (R90). -/
theorem cmdWord_toNat (op idx : BitVec 4) (arg : Word32) :
    (cmdWord op idx arg).toNat = op.toNat * 2 ^ 36 + idx.toNat * 2 ^ 32 + arg.toNat := by
  have h : (cmdWord op idx arg).toNat = ((op ++ idx : BitVec (4 + 4)) ++ arg : BitVec (4 + 4 + 32)).toNat := rfl
  rw [h, BitVec.toNat_append, BitVec.toNat_append, ← Nat.shiftLeft_add_eq_or_of_lt arg.isLt,
    ← Nat.shiftLeft_add_eq_or_of_lt idx.isLt, Nat.shiftLeft_eq, Nat.shiftLeft_eq]
  ring

/-- A field of a word as a number. -/
theorem slice_toNat {n : Nat} (w : BitVec n) (start len : Nat) :
    (w.extractLsb' start len).toNat = w.toNat / 2 ^ start % 2 ^ len := by
  simp [BitVec.extractLsb'_toNat, Nat.shiftRight_eq_div_pow]

/-- The two control bits and the address of a header (R95). -/
theorem header_toNat (r : BitVec 2) (a : Addr) : (r ++ a : Byte).toNat = r.toNat * 64 + a.toNat := by
  have h : (r ++ a : Byte).toNat = (r ++ a : BitVec (2 + 6)).toNat := rfl
  rw [h, BitVec.toNat_append, ← Nat.shiftLeft_add_eq_or_of_lt a.isLt, Nat.shiftLeft_eq]

end Sys2Proof
end

