-- ==== Sys2Proof/Laws/Run.lean ====
section
/-! SUPPORT. The small lemmas of `Run`: sequencing, the left state, INIT's lifting of failures, and the end of a
command. -/

namespace Sys2Proof.Machine

variable {α β : Type}

@[simp] theorem Run.bind_go (a : α) (s : State) (f : α → State → Run β) : (Run.go a s).bind f = f a s := rfl
@[simp] theorem Run.bind_stop (w : Stop) (s : State) (f : α → State → Run β) :
    (Run.stop w s).bind f = .stop w s := rfl
@[simp] theorem Run.state_go (a : α) (s : State) : (Run.go a s).state = s := rfl
@[simp] theorem Run.state_stop (w : Stop) (s : State) : (Run.stop w s : Run α).state = s := rfl
@[simp] theorem Run.fatalOnFail_go (a : α) (s : State) : (Run.go a s).fatalOnFail = .go a s := rfl
@[simp] theorem Run.fatalOnFail_fail (e : LocalError) (s : State) :
    (Run.stop (.fail e) s : Run α).fatalOnFail = .stop (.fatal .busFailure) s := rfl
@[simp] theorem Run.fatalOnFail_fatal (c : FatalCode) (s : State) :
    (Run.stop (.fatal c) s : Run α).fatalOnFail = .stop (.fatal c) s := rfl
@[simp] theorem Run.fatalOnFail_hang (s : State) : (Run.stop .hang s : Run α).fatalOnFail = .stop .hang s := rfl

@[simp] theorem Run.fatalOnFail_state (r : Run α) : r.fatalOnFail.state = r.state := by
  rcases r with ⟨a, s⟩ | ⟨_ | _ | _, s⟩ <;> rfl

/-- What sequencing can answer when it goes on. -/
theorem Run.bind_eq_go {r : Run α} {f : α → State → Run β} {b : β} {t : State} (h : r.bind f = .go b t) :
    ∃ a u, r = .go a u ∧ f a u = .go b t := by
  cases r with
  | go a u => exact ⟨a, u, rfl, h⟩
  | stop w u => cases h

/-- What sequencing can answer when it stops. -/
theorem Run.bind_eq_stop {r : Run α} {f : α → State → Run β} {w : Stop} {t : State} (h : r.bind f = .stop w t) :
    r = .stop w t ∨ ∃ a u, r = .go a u ∧ f a u = .stop w t := by
  cases r with
  | go a u => exact .inr ⟨a, u, rfl, h⟩
  | stop v u => cases h; exact .inl rfl

/-- A transitive relation between states that each part keeps is kept by the sequence. -/
theorem Run.bind_state_rel {R : State → State → Prop} (trans : ∀ a b c, R a b → R b c → R a c) {s : State}
    {r : Run α} {f : α → State → Run β} (h1 : R s r.state) (h2 : ∀ a u, r = .go a u → R u (f a u).state) :
    R s (r.bind f).state := by
  cases r with
  | go a u => exact trans _ _ _ h1 (h2 a u rfl)
  | stop w u => exact h1

/-- Lifting a failure to a fatal fault leaves no local failure. -/
theorem Run.fatalOnFail_eq_stop {r : Run α} {w : Stop} {t : State} (h : r.fatalOnFail = .stop w t) :
    (∃ e, r = .stop (.fail e) t ∧ w = .fatal .busFailure) ∨ (r = .stop w t ∧ ∀ e, w ≠ .fail e) := by
  rcases r with ⟨a, s⟩ | ⟨e | c | _, s⟩
  · cases h
  · cases h; exact .inl ⟨e, rfl, rfl⟩
  · cases h; exact .inr ⟨rfl, fun e => Stop.noConfusion⟩
  · cases h; exact .inr ⟨rfl, fun e => Stop.noConfusion⟩

/-- Lifting changes no run that goes on. -/
theorem Run.fatalOnFail_eq_go {r : Run α} {a : α} {t : State} (h : r.fatalOnFail = .go a t) : r = .go a t := by
  rcases r with ⟨b, s⟩ | ⟨_ | _ | _, s⟩ <;> simp_all

theorem finish_go (v : Word32) (s : State) : finish (.go v s) = .next (s.complete true v) := rfl
theorem finish_fail (e : LocalError) (s : State) : finish (.stop (.fail e) s) = .next (s.complete false e.code) := rfl
theorem finish_fatal (c : FatalCode) (s : State) : finish (.stop (.fatal c) s) = .next (s.raiseFatal c) := rfl
theorem finish_hang (s : State) : finish (.stop .hang s) = .fault .hang := rfl

/-- What the end of a command can answer. -/
theorem finish_eq_next {r : Run Word32} {t : State} (h : finish r = .next t) :
    (∃ v s, r = .go v s ∧ t = s.complete true v) ∨ (∃ e s, r = .stop (.fail e) s ∧ t = s.complete false e.code) ∨
    ∃ c s, r = .stop (.fatal c) s ∧ t = s.raiseFatal c := by
  rcases r with ⟨v, s⟩ | ⟨e | c | _, s⟩
  · injection h with h; exact .inl ⟨v, s, rfl, h.symm⟩
  · injection h with h; exact .inr (.inl ⟨e, s, rfl, h.symm⟩)
  · injection h with h; exact .inr (.inr ⟨c, s, rfl, h.symm⟩)
  · cases h

/-- What a command can answer: a refusal, or what its end answers. -/
theorem runCmd_eq_next {g : CmdGroup} {body : State → Run Word32} {s t : State} (h : runCmd g body s = .next t) :
    (admits g s.ctl = false ∧ t = s.refuse) ∨ (admits g s.ctl = true ∧ finish (body s) = .next t) := by
  unfold runCmd at h
  split at h
  · rename_i hg; exact .inr ⟨hg, h⟩
  · rename_i hg; injection h with h; exact .inl ⟨by simpa using hg, h.symm⟩

theorem runCmd_admitted {g : CmdGroup} {body : State → Run Word32} {s : State} (h : admits g s.ctl = true) :
    runCmd g body s = finish (body s) := if_pos h

theorem runCmd_refused {g : CmdGroup} {body : State → Run Word32} {s : State} (h : admits g s.ctl = false) :
    runCmd g body s = .next s.refuse := if_neg (by simp [h])

/-- A reserved command word in any state but Faulted is a fatal fault (R93). -/
theorem runReserved_fatal {s : State} (h : s.ctl ≠ .faulted) :
    runReserved s = .next (s.raiseFatal .illegalCommand) := if_neg h

theorem runReserved_refused {s : State} (h : s.ctl = .faulted) : runReserved s = .next s.refuse := if_pos h

end Sys2Proof.Machine
end

