-- ==== Sys2Proof/Laws/State.lean ====
section
/-! SUPPORT. One lemma per field per update of the state: no later proof unfolds a record update. -/

namespace Sys2Proof.Machine

variable (s : State)

/-! ### `emit` -/

@[simp] theorem emit_cfg (e : Event) : (s.emit e).cfg = s.cfg := rfl
@[simp] theorem emit_radio (e : Event) : (s.emit e).radio = s.radio := rfl
@[simp] theorem emit_dev (e : Event) : (s.emit e).dev = s.dev := rfl
@[simp] theorem emit_ctl (e : Event) : (s.emit e).ctl = s.ctl := rfl
@[simp] theorem emit_fault (e : Event) : (s.emit e).fault = s.fault := rfl
@[simp] theorem emit_res (e : Event) : (s.emit e).res = s.res := rfl
@[simp] theorem emit_ok (e : Event) : (s.emit e).ok = s.ok := rfl
@[simp] theorem emit_irqArmed (e : Event) : (s.emit e).irqArmed = s.irqArmed := rfl
@[simp] theorem emit_irqPolicy (e : Event) : (s.emit e).irqPolicy = s.irqPolicy := rfl
@[simp] theorem emit_nq (e : Event) : (s.emit e).nq = s.nq := rfl
@[simp] theorem emit_trace (e : Event) : (s.emit e).trace = s.trace ++ [e] := rfl
@[simp] theorem emit_env (e : Event) : (s.emit e).env = s.env := rfl

/-! ### `setCtl` -/

@[simp] theorem setCtl_cfg (c : CtlState) : (s.setCtl c).cfg = s.cfg := rfl
@[simp] theorem setCtl_radio (c : CtlState) : (s.setCtl c).radio = s.radio := rfl
@[simp] theorem setCtl_dev (c : CtlState) : (s.setCtl c).dev = s.dev := rfl
@[simp] theorem setCtl_ctl (c : CtlState) : (s.setCtl c).ctl = c := rfl
@[simp] theorem setCtl_fault (c : CtlState) : (s.setCtl c).fault = s.fault := rfl
@[simp] theorem setCtl_res (c : CtlState) : (s.setCtl c).res = s.res := rfl
@[simp] theorem setCtl_ok (c : CtlState) : (s.setCtl c).ok = s.ok := rfl
@[simp] theorem setCtl_irqArmed (c : CtlState) : (s.setCtl c).irqArmed = s.irqArmed := rfl
@[simp] theorem setCtl_irqPolicy (c : CtlState) : (s.setCtl c).irqPolicy = s.irqPolicy := rfl
@[simp] theorem setCtl_nq (c : CtlState) : (s.setCtl c).nq = s.nq := rfl
@[simp] theorem setCtl_trace (c : CtlState) : (s.setCtl c).trace = s.trace ++ [.ctl c] := rfl
@[simp] theorem setCtl_env (c : CtlState) : (s.setCtl c).env = s.env := rfl

/-! ### `setOsc` -/

@[simp] theorem setOsc_cfg (v : Word32) : (s.setOsc v).cfg = s.cfg := rfl
@[simp] theorem setOsc_radio (v : Word32) : (s.setOsc v).radio = s.radio := rfl
@[simp] theorem setOsc_dev (v : Word32) : (s.setOsc v).dev = { s.dev with oscHz := some v } := rfl
@[simp] theorem setOsc_ctl (v : Word32) : (s.setOsc v).ctl = s.ctl := rfl
@[simp] theorem setOsc_fault (v : Word32) : (s.setOsc v).fault = s.fault := rfl
@[simp] theorem setOsc_res (v : Word32) : (s.setOsc v).res = s.res := rfl
@[simp] theorem setOsc_ok (v : Word32) : (s.setOsc v).ok = s.ok := rfl
@[simp] theorem setOsc_irqArmed (v : Word32) : (s.setOsc v).irqArmed = s.irqArmed := rfl
@[simp] theorem setOsc_irqPolicy (v : Word32) : (s.setOsc v).irqPolicy = s.irqPolicy := rfl
@[simp] theorem setOsc_nq (v : Word32) : (s.setOsc v).nq = s.nq := rfl
@[simp] theorem setOsc_trace (v : Word32) : (s.setOsc v).trace = s.trace := rfl
@[simp] theorem setOsc_env (v : Word32) : (s.setOsc v).env = s.env := rfl

/-! ### `setFreq` -/

@[simp] theorem setFreq_cfg (v : Word32) : (s.setFreq v).cfg = s.cfg := rfl
@[simp] theorem setFreq_radio (v : Word32) : (s.setFreq v).radio = s.radio := rfl
@[simp] theorem setFreq_dev (v : Word32) : (s.setFreq v).dev = { s.dev with freqHz := some v } := rfl
@[simp] theorem setFreq_ctl (v : Word32) : (s.setFreq v).ctl = s.ctl := rfl
@[simp] theorem setFreq_fault (v : Word32) : (s.setFreq v).fault = s.fault := rfl
@[simp] theorem setFreq_res (v : Word32) : (s.setFreq v).res = s.res := rfl
@[simp] theorem setFreq_ok (v : Word32) : (s.setFreq v).ok = s.ok := rfl
@[simp] theorem setFreq_irqArmed (v : Word32) : (s.setFreq v).irqArmed = s.irqArmed := rfl
@[simp] theorem setFreq_irqPolicy (v : Word32) : (s.setFreq v).irqPolicy = s.irqPolicy := rfl
@[simp] theorem setFreq_nq (v : Word32) : (s.setFreq v).nq = s.nq := rfl
@[simp] theorem setFreq_trace (v : Word32) : (s.setFreq v).trace = s.trace := rfl
@[simp] theorem setFreq_env (v : Word32) : (s.setFreq v).env = s.env := rfl

/-! ### `stagePa` -/

@[simp] theorem stagePa_cfg (b : Fin 4) (x y : Byte) : (s.stagePa b x y).cfg = s.cfg := rfl
@[simp] theorem stagePa_radio (b : Fin 4) (x y : Byte) : (s.stagePa b x y).radio = s.radio := rfl
@[simp] theorem stagePa_dev (b : Fin 4) (x y : Byte) : (s.stagePa b x y).dev = { s.dev with paSel := BitVec.ofNat 2 b.val, paBuf := (s.dev.paBuf.set 0 x).set 1 y } := rfl
@[simp] theorem stagePa_ctl (b : Fin 4) (x y : Byte) : (s.stagePa b x y).ctl = s.ctl := rfl
@[simp] theorem stagePa_fault (b : Fin 4) (x y : Byte) : (s.stagePa b x y).fault = s.fault := rfl
@[simp] theorem stagePa_res (b : Fin 4) (x y : Byte) : (s.stagePa b x y).res = s.res := rfl
@[simp] theorem stagePa_ok (b : Fin 4) (x y : Byte) : (s.stagePa b x y).ok = s.ok := rfl
@[simp] theorem stagePa_irqArmed (b : Fin 4) (x y : Byte) : (s.stagePa b x y).irqArmed = s.irqArmed := rfl
@[simp] theorem stagePa_irqPolicy (b : Fin 4) (x y : Byte) : (s.stagePa b x y).irqPolicy = s.irqPolicy := rfl
@[simp] theorem stagePa_nq (b : Fin 4) (x y : Byte) : (s.stagePa b x y).nq = s.nq := rfl
@[simp] theorem stagePa_trace (b : Fin 4) (x y : Byte) : (s.stagePa b x y).trace = s.trace := rfl
@[simp] theorem stagePa_env (b : Fin 4) (x y : Byte) : (s.stagePa b x y).env = s.env := rfl

/-! ### `setRadio` -/

@[simp] theorem setRadio_cfg (r : RadioConfig) : (s.setRadio r).cfg = s.cfg := rfl
@[simp] theorem setRadio_radio (r : RadioConfig) : (s.setRadio r).radio = r := rfl
@[simp] theorem setRadio_dev (r : RadioConfig) : (s.setRadio r).dev = s.dev := rfl
@[simp] theorem setRadio_ctl (r : RadioConfig) : (s.setRadio r).ctl = s.ctl := rfl
@[simp] theorem setRadio_fault (r : RadioConfig) : (s.setRadio r).fault = s.fault := rfl
@[simp] theorem setRadio_res (r : RadioConfig) : (s.setRadio r).res = s.res := rfl
@[simp] theorem setRadio_ok (r : RadioConfig) : (s.setRadio r).ok = s.ok := rfl
@[simp] theorem setRadio_irqArmed (r : RadioConfig) : (s.setRadio r).irqArmed = s.irqArmed := rfl
@[simp] theorem setRadio_irqPolicy (r : RadioConfig) : (s.setRadio r).irqPolicy = s.irqPolicy := rfl
@[simp] theorem setRadio_nq (r : RadioConfig) : (s.setRadio r).nq = s.nq := rfl
@[simp] theorem setRadio_trace (r : RadioConfig) : (s.setRadio r).trace = s.trace := rfl
@[simp] theorem setRadio_env (r : RadioConfig) : (s.setRadio r).env = s.env := rfl

/-! ### `arm` -/

@[simp] theorem arm_cfg (p : BitVec 2) : (s.arm p).cfg = s.cfg := rfl
@[simp] theorem arm_radio (p : BitVec 2) : (s.arm p).radio = s.radio := rfl
@[simp] theorem arm_dev (p : BitVec 2) : (s.arm p).dev = s.dev := rfl
@[simp] theorem arm_ctl (p : BitVec 2) : (s.arm p).ctl = s.ctl := rfl
@[simp] theorem arm_fault (p : BitVec 2) : (s.arm p).fault = s.fault := rfl
@[simp] theorem arm_res (p : BitVec 2) : (s.arm p).res = s.res := rfl
@[simp] theorem arm_ok (p : BitVec 2) : (s.arm p).ok = s.ok := rfl
@[simp] theorem arm_irqArmed (p : BitVec 2) : (s.arm p).irqArmed = true := rfl
@[simp] theorem arm_irqPolicy (p : BitVec 2) : (s.arm p).irqPolicy = p := rfl
@[simp] theorem arm_nq (p : BitVec 2) : (s.arm p).nq = s.nq := rfl
@[simp] theorem arm_trace (p : BitVec 2) : (s.arm p).trace = s.trace := rfl
@[simp] theorem arm_env (p : BitVec 2) : (s.arm p).env = s.env := rfl

/-! ### `setNq` -/

@[simp] theorem setNq_cfg (n : Nat) : (s.setNq n).cfg = s.cfg := rfl
@[simp] theorem setNq_radio (n : Nat) : (s.setNq n).radio = s.radio := rfl
@[simp] theorem setNq_dev (n : Nat) : (s.setNq n).dev = s.dev := rfl
@[simp] theorem setNq_ctl (n : Nat) : (s.setNq n).ctl = s.ctl := rfl
@[simp] theorem setNq_fault (n : Nat) : (s.setNq n).fault = s.fault := rfl
@[simp] theorem setNq_res (n : Nat) : (s.setNq n).res = s.res := rfl
@[simp] theorem setNq_ok (n : Nat) : (s.setNq n).ok = s.ok := rfl
@[simp] theorem setNq_irqArmed (n : Nat) : (s.setNq n).irqArmed = s.irqArmed := rfl
@[simp] theorem setNq_irqPolicy (n : Nat) : (s.setNq n).irqPolicy = s.irqPolicy := rfl
@[simp] theorem setNq_nq (n : Nat) : (s.setNq n).nq = n := rfl
@[simp] theorem setNq_trace (n : Nat) : (s.setNq n).trace = s.trace := rfl
@[simp] theorem setNq_env (n : Nat) : (s.setNq n).env = s.env := rfl

/-! ### `setEnv` -/

@[simp] theorem setEnv_cfg (e : Env) : (s.setEnv e).cfg = s.cfg := rfl
@[simp] theorem setEnv_radio (e : Env) : (s.setEnv e).radio = s.radio := rfl
@[simp] theorem setEnv_dev (e : Env) : (s.setEnv e).dev = s.dev := rfl
@[simp] theorem setEnv_ctl (e : Env) : (s.setEnv e).ctl = s.ctl := rfl
@[simp] theorem setEnv_fault (e : Env) : (s.setEnv e).fault = s.fault := rfl
@[simp] theorem setEnv_res (e : Env) : (s.setEnv e).res = s.res := rfl
@[simp] theorem setEnv_ok (e : Env) : (s.setEnv e).ok = s.ok := rfl
@[simp] theorem setEnv_irqArmed (e : Env) : (s.setEnv e).irqArmed = s.irqArmed := rfl
@[simp] theorem setEnv_irqPolicy (e : Env) : (s.setEnv e).irqPolicy = s.irqPolicy := rfl
@[simp] theorem setEnv_nq (e : Env) : (s.setEnv e).nq = s.nq := rfl
@[simp] theorem setEnv_trace (e : Env) : (s.setEnv e).trace = s.trace := rfl
@[simp] theorem setEnv_env (e : Env) : (s.setEnv e).env = e := rfl

/-! ### `complete` -/

@[simp] theorem complete_cfg (b : Bool) (v : Word32) : (s.complete b v).cfg = s.cfg := rfl
@[simp] theorem complete_radio (b : Bool) (v : Word32) : (s.complete b v).radio = s.radio := rfl
@[simp] theorem complete_dev (b : Bool) (v : Word32) : (s.complete b v).dev = s.dev := rfl
@[simp] theorem complete_ctl (b : Bool) (v : Word32) : (s.complete b v).ctl = s.ctl := rfl
@[simp] theorem complete_fault (b : Bool) (v : Word32) : (s.complete b v).fault = s.fault := rfl
@[simp] theorem complete_res (b : Bool) (v : Word32) : (s.complete b v).res = v := rfl
@[simp] theorem complete_ok (b : Bool) (v : Word32) : (s.complete b v).ok = b := rfl
@[simp] theorem complete_irqArmed (b : Bool) (v : Word32) : (s.complete b v).irqArmed = s.irqArmed := rfl
@[simp] theorem complete_irqPolicy (b : Bool) (v : Word32) : (s.complete b v).irqPolicy = s.irqPolicy := rfl
@[simp] theorem complete_nq (b : Bool) (v : Word32) : (s.complete b v).nq = s.nq := rfl
@[simp] theorem complete_trace (b : Bool) (v : Word32) : (s.complete b v).trace = s.trace := rfl
@[simp] theorem complete_env (b : Bool) (v : Word32) : (s.complete b v).env = s.env := rfl

/-! ### `raiseFatal` -/

@[simp] theorem raiseFatal_cfg (c : FatalCode) : (s.raiseFatal c).cfg = s.cfg := rfl
@[simp] theorem raiseFatal_radio (c : FatalCode) : (s.raiseFatal c).radio = s.radio := rfl
@[simp] theorem raiseFatal_dev (c : FatalCode) : (s.raiseFatal c).dev = s.dev := rfl
@[simp] theorem raiseFatal_ctl (c : FatalCode) : (s.raiseFatal c).ctl = .faulted := rfl
@[simp] theorem raiseFatal_fault (c : FatalCode) : (s.raiseFatal c).fault = c.code := rfl
@[simp] theorem raiseFatal_res (c : FatalCode) : (s.raiseFatal c).res = fatalRes := rfl
@[simp] theorem raiseFatal_ok (c : FatalCode) : (s.raiseFatal c).ok = false := rfl
@[simp] theorem raiseFatal_irqArmed (c : FatalCode) : (s.raiseFatal c).irqArmed = s.irqArmed := rfl
@[simp] theorem raiseFatal_irqPolicy (c : FatalCode) : (s.raiseFatal c).irqPolicy = s.irqPolicy := rfl
@[simp] theorem raiseFatal_nq (c : FatalCode) : (s.raiseFatal c).nq = s.nq := rfl
@[simp] theorem raiseFatal_trace (c : FatalCode) : (s.raiseFatal c).trace = s.trace ++ [.ctl .faulted] := rfl
@[simp] theorem raiseFatal_env (c : FatalCode) : (s.raiseFatal c).env = s.env := rfl

end Sys2Proof.Machine
end

