-- ==== Sys2Proof/Laws/Ops.lean ====
section
/-! SUPPORT. What each shared operation can do: the exchange, the drain, the flush, the interpreter and the interpreted
primitives change nothing but the answers, the free-value counter and the trace; they stop only by a bus failure; and
their exact result on a smooth answer. -/

namespace Sys2Proof.Machine

/-! ## The frame relation -/

theorem TrafficOnly.refl (s : State) : TrafficOnly s s :=
  ⟨rfl, rfl, rfl, rfl, rfl, rfl, rfl, rfl, rfl, rfl, rfl, rfl, rfl, [], by simp, by simp⟩

theorem TrafficOnly.trans {a b c : State} (h : TrafficOnly a b) (k : TrafficOnly b c) : TrafficOnly a c := by
  obtain ⟨n1, e1, p1⟩ := h.trace
  obtain ⟨n2, e2, p2⟩ := k.trace
  refine ⟨k.cfg.trans h.cfg, k.radio.trans h.radio, k.dev.trans h.dev, k.ctl.trans h.ctl, k.fault.trans h.fault,
    k.res.trans h.res, k.ok.trans h.ok, k.irqArmed.trans h.irqArmed, k.irqPolicy.trans h.irqPolicy, k.nq.trans h.nq,
    k.inputs.trans h.inputs, k.levels.trans h.levels, k.waits.trans h.waits, n1 ++ n2, ?_, ?_⟩
  · rw [e2, e1, List.append_assoc]
  · intro e he
    rcases List.mem_append.mp he with he | he
    · exact p1 e he
    · exact p2 e he

theorem TrafficOnly.emit {s : State} {e : Event} (h : e.isTraffic = true) : TrafficOnly s (s.emit e) :=
  ⟨rfl, rfl, rfl, rfl, rfl, rfl, rfl, rfl, rfl, rfl, rfl, rfl, rfl, [e], rfl, by simpa using h⟩

/-- Sequencing keeps the frame. -/
theorem TrafficOnly.bind {α β : Type} {s : State} {r : Run α} {f : α → State → Run β} (h1 : TrafficOnly s r.state)
    (h2 : ∀ a u, r = .go a u → TrafficOnly u (f a u).state) : TrafficOnly s (r.bind f).state :=
  Run.bind_state_rel (R := TrafficOnly) (fun _ _ _ => TrafficOnly.trans) h1 h2

/-! ## The oracle -/

@[simp] theorem fitData_length (e : Env) (n : Nat) (d : List Byte) : (e.fitData n d).length = n := by
  simp [Env.fitData]

/-- The bytes an answer brings are delivered as they are when their number is right. -/
theorem fitData_exact (e : Env) (d : List Byte) : e.fitData d.length d = d := by
  apply List.ext_getElem
  · simp
  · intro i h1 h2
    simp [Env.fitData, List.getD_eq_getElem?_getD, h2]

@[simp] theorem nextAnswer_length (e : Env) (n : Nat) : (e.nextAnswer n).data.length = n := by
  unfold Env.nextAnswer
  split <;> simp

/-- The next decided answer is the one delivered. -/
theorem nextAnswer_decided {e : Env} {a : Answer} {rest : List Answer} {n : Nat} (h : e.answers = a :: rest)
    (hn : a.data.length = n) : e.nextAnswer n = a := by
  subst hn
  simp [Env.nextAnswer, h, fitData_exact]

theorem afterAnswer_decided {e : Env} {a : Answer} {rest : List Answer} (h : e.answers = a :: rest) :
    e.afterAnswer = e.used rest 1 := by simp [Env.afterAnswer, Env.used, h]

/-- The success of a decided answer. -/
theorem nextAnswer_ok {e : Env} {a : Answer} {rest : List Answer} {n : Nat} (h : e.answers = a :: rest) :
    (e.nextAnswer n).ok = a.ok := by simp [Env.nextAnswer, h]

/-! ## The frames of the operations -/

theorem exchange_traffic (k : BusKind) (header : Byte) (sent : List Byte) (n : Nat) (s : State) :
    TrafficOnly s (exchange k header sent n s).2 :=
  ⟨rfl, rfl, rfl, rfl, rfl, rfl, rfl, rfl, rfl, rfl, rfl, rfl, rfl, [.bus k header sent (s.env.nextAnswer n)], rfl,
    by simp [Event.isTraffic]⟩

theorem drain_traffic (s : State) : TrafficOnly s (drain s).state := by
  have h1 := exchange_traffic .read1 (hdr 1 0 s.cfg.reg.rxbytes) [] 1 s
  unfold drain
  dsimp only
  split
  · split
    · split
      · exact (h1.trans (exchange_traffic _ _ _ _ _)).trans (TrafficOnly.emit rfl)
      · exact h1.trans (exchange_traffic _ _ _ _ _)
    · exact h1
  · exact h1

theorem flush_traffic (s : State) : TrafficOnly s (flush s).state := by
  unfold flush
  dsimp only
  split <;> exact exchange_traffic _ _ _ _ _

/-- The interpreter changes `TRACE` only (R226). -/
theorem interp_traffic (status : Byte) (trig : Trigger) (s : State) : TrafficOnly s (interp status trig s).state := by
  unfold interp
  split
  · exact TrafficOnly.bind (drain_traffic s) fun _ u _ =>
      TrafficOnly.bind (flush_traffic u) fun _ v _ => TrafficOnly.refl v
  · exact TrafficOnly.refl s
  · split
    · exact TrafficOnly.bind (drain_traffic s) fun _ u _ => TrafficOnly.refl u
    · exact TrafficOnly.refl s
  · exact TrafficOnly.refl s
  all_goals exact TrafficOnly.emit rfl

theorem interpreted_traffic {trig : Trigger} {x : Answer × State} {s : State} (h : TrafficOnly s x.2) :
    TrafficOnly s (interpreted trig x).state := by
  unfold interpreted
  split
  · exact h.trans (TrafficOnly.bind (interp_traffic _ _ _) fun _ u _ => TrafficOnly.refl u)
  · exact h

theorem busStrobe_traffic (c : Byte) (s : State) : TrafficOnly s (busStrobe c s).state :=
  interpreted_traffic (exchange_traffic _ _ _ _ _)
theorem busWrite1_traffic (a : Addr) (v : Byte) (s : State) : TrafficOnly s (busWrite1 a v s).state :=
  interpreted_traffic (exchange_traffic _ _ _ _ _)
theorem busRead1_traffic (a : Addr) (s : State) : TrafficOnly s (busRead1 a s).state :=
  interpreted_traffic (exchange_traffic _ _ _ _ _)
theorem busWriteN_traffic (a : Addr) (p : List Byte) (s : State) : TrafficOnly s (busWriteN a p s).state :=
  interpreted_traffic (exchange_traffic _ _ _ _ _)
theorem busReadN_traffic (a : Addr) (n : Nat) (s : State) : TrafficOnly s (busReadN a n s).state :=
  interpreted_traffic (exchange_traffic _ _ _ _ _)

/-! ## How they stop -/

/-- A run that stops only by a bus failure (R78, R233, R312). -/
def BusFailOnly {α : Type} (r : Run α) : Prop := ∀ w u, r = .stop w u → w = .fail .busFailure

theorem BusFailOnly.go {α : Type} (a : α) (s : State) : BusFailOnly (.go a s) := by intro w u h; cases h

theorem BusFailOnly.bind {α β : Type} {r : Run α} {f : α → State → Run β} (h1 : BusFailOnly r)
    (h2 : ∀ a u, BusFailOnly (f a u)) : BusFailOnly (r.bind f) := by
  intro w u h
  rcases Run.bind_eq_stop h with h | ⟨a, v, -, h⟩
  · exact h1 w u h
  · exact h2 a v w u h

theorem drain_busFailOnly (s : State) : BusFailOnly (drain s) := by
  intro w u h
  unfold drain at h
  dsimp only at h
  split at h
  · split at h
    · split at h <;> cases h
      rfl
    · cases h
  · cases h; rfl

theorem flush_busFailOnly (s : State) : BusFailOnly (flush s) := by
  intro w u h
  unfold flush at h
  dsimp only at h
  split at h <;> cases h
  rfl

theorem interp_busFailOnly (status : Byte) (trig : Trigger) (s : State) : BusFailOnly (interp status trig s) := by
  unfold interp
  split
  · exact (drain_busFailOnly s).bind fun _ u => (flush_busFailOnly u).bind fun _ v => BusFailOnly.go _ v
  · exact BusFailOnly.go _ s
  · split
    · exact (drain_busFailOnly s).bind fun _ u => BusFailOnly.go _ u
    · exact BusFailOnly.go _ s
  all_goals exact BusFailOnly.go _ _

theorem interpreted_busFailOnly (trig : Trigger) (x : Answer × State) : BusFailOnly (interpreted trig x) := by
  unfold interpreted
  split
  · exact (interp_busFailOnly _ _ _).bind fun _ u => BusFailOnly.go _ u
  · intro w u h; cases h; rfl

/-- What an interpreted primitive answers when it goes on: the answer of its own exchange. -/
theorem interpreted_go {trig : Trigger} {x : Answer × State} {a : Answer} {u : State}
    (h : interpreted trig x = .go a u) : a = x.1 ∧ x.1.ok = true := by
  unfold interpreted at h
  split at h
  · rename_i hx
    obtain ⟨_, v, -, h⟩ := Run.bind_eq_go h
    cases h
    exact ⟨rfl, hx⟩
  · cases h

/-! ## On a smooth answer -/

/-- On a status byte that does not drain, the interpreter logs or does nothing (R227). -/
theorem interp_calm {c : Config} {status : Byte} {trig : Trigger} {s : State} (hc : s.cfg = c)
    (h : drains c status trig = false) :
    interp status trig s = .go (calmAct c status) { s with trace := s.trace ++ statusLog c status } := by
  subst hc
  unfold drains at h
  unfold interp calmAct statusLog
  split <;> rename_i hs <;> simp only [hs] at h ⊢
  · cases h
  · simp
  · have : ¬ (statusCount status ≠ 0 ∧ trig = .read) := by
      rintro ⟨h1, h2⟩
      simp [h2] at h
      exact h1 h
    rw [if_neg this]
    simp
  · simp
  all_goals rfl

/-- The result of an interpreted primitive on a smooth answer. -/
theorem interpreted_smooth {trig : Trigger} {k : BusKind} {header : Byte} {sent : List Byte} {n : Nat} {s : State}
    {a : Answer} {rest : List Answer} (h : s.env.answers = a :: rest) (hs : Smooth s.cfg trig n a) :
    interpreted trig (exchange k header sent n s) =
      .go a { s with trace := s.trace ++ smoothEvents s.cfg k header sent a, env := s.env.used rest 1 } := by
  have ha := nextAnswer_decided (n := n) h hs.2.1
  unfold interpreted exchange
  simp only [ha, hs.1, if_true, afterAnswer_decided h]
  rw [interp_calm (c := s.cfg) (s := (s.setEnv (s.env.used rest 1)).emit (.bus k header sent a)) rfl hs.2.2]
  simp [State.emit, State.setEnv, smoothEvents]

/-! ## On any successful answer -/

/-- The result of an interpreted primitive on a successful answer: the interpreter on the state after the exchange. -/
theorem interpreted_decided {trig : Trigger} {k : BusKind} {header : Byte} {sent : List Byte} {n : Nat} {s : State}
    {a : Answer} {rest : List Answer} (h : s.env.answers = a :: rest) (hok : a.ok = true) (hn : a.data.length = n) :
    interpreted trig (exchange k header sent n s) =
      (interp a.status trig (s.exchanged k header sent a rest)).bind fun _ u => .go a u := by
  have ha := nextAnswer_decided (n := n) h hn
  unfold interpreted exchange State.exchanged
  simp [ha, hok, afterAnswer_decided h, State.emit, State.setEnv]

/-- How a command of one exchange ends on a successful answer. -/
theorem finish_interpreted {trig : Trigger} {k : BusKind} {header : Byte} {sent : List Byte} {n : Nat} {s : State}
    {a : Answer} {rest : List Answer} (h : s.env.answers = a :: rest) (hok : a.ok = true) (hn : a.data.length = n)
    (v : Answer → Word32) (g : Answer → State → State) :
    finish ((interpreted trig (exchange k header sent n s)).bind fun r u => .go (v r) (g r u)) =
      interpretedEnd trig a.status (s.exchanged k header sent a rest) fun u => (g a u).complete true (v a) := by
  rw [interpreted_decided h hok hn]
  unfold interpretedEnd
  cases hi : interp a.status trig (s.exchanged k header sent a rest) with
  | go act u => rfl
  | stop w u =>
    rw [interp_busFailOnly _ _ _ _ _ hi]
    rfl

/-- A receive-enable strobe whose interpretation goes on. -/
theorem busStrobe_strobed {a : Answer} {s v : State} (h : strobed a s v) : busStrobe s.cfg.stb.srx s = .go a v := by
  obtain ⟨rest, act, hr, hok, hd, hi⟩ := h
  unfold busStrobe rawStrobe
  rw [interpreted_decided hr hok (by rw [hd]; rfl), hi, Run.bind_go]

/-- It leaves the configuration as it was. -/
theorem strobed_cfg {a : Answer} {s v : State} (h : strobed a s v) : v.cfg = s.cfg := by
  obtain ⟨rest, act, -, -, -, hi⟩ := h
  have ht := interp_traffic a.status .write (s.exchanged .strobe s.cfg.stb.srx [] a rest)
  rw [hi] at ht
  exact ht.cfg

end Sys2Proof.Machine
end

