-- ==== Sys2Proof/Laws/Failed.lean ====
section
/-! SUPPORT. Where a failed exchange stands: for the shared operations, a run that goes on has none among its new
events, and a run that stops by a bus failure has exactly one, the last (20_memory.md R78, 45_status_interpreter.md
R233, 60_exceptions.md R312). -/

namespace Sys2Proof.Machine

/-- No exchange of these events failed. -/
def Clean (es : List Event) : Prop := ∀ e ∈ es, e.failedExchange = false

/-- Exactly the last exchange of these events failed. -/
def EndsFailed (es : List Event) : Prop := ∃ before e, es = before ++ [e] ∧ e.failedExchange = true ∧ Clean before

theorem Clean.nil : Clean [] := by simp [Clean]

theorem Clean.append {a b : List Event} (ha : Clean a) (hb : Clean b) : Clean (a ++ b) := fun e he =>
  (List.mem_append.mp he).elim (ha e) (hb e)

theorem EndsFailed.after {a b : List Event} (ha : Clean a) (hb : EndsFailed b) : EndsFailed (a ++ b) := by
  obtain ⟨before, e, rfl, he, hc⟩ := hb
  exact ⟨a ++ before, e, by rw [List.append_assoc], he, ha.append hc⟩

theorem Clean.failedOnlyLast {es : List Event} (h : Clean es) : failedOnlyLast es := by
  rintro before after e rfl he
  rw [h e (by simp)] at he
  cases he

theorem EndsFailed.failedOnlyLast {es : List Event} (h : EndsFailed es) : failedOnlyLast es := by
  obtain ⟨before, e, rfl, -, hc⟩ := h
  intro before' after e' heq he'
  cases after using List.reverseRec with
  | nil => rfl
  | append_singleton after x =>
    have h := congrArg List.dropLast heq
    rw [List.dropLast_concat, ← List.cons_append, ← List.append_assoc, List.dropLast_concat] at h
    rw [hc e' (by simp [h])] at he'
    cases he'

theorem EndsFailed.exists {es : List Event} (h : EndsFailed es) : ∃ e ∈ es, e.failedExchange = true := by
  obtain ⟨before, e, rfl, he, -⟩ := h
  exact ⟨e, by simp, he⟩

theorem Clean.not_exists {es : List Event} (h : Clean es) : ¬ ∃ e ∈ es, e.failedExchange = true := by
  rintro ⟨e, he, hf⟩
  rw [h e he] at hf
  cases hf

/-- Is the stop of a failed exchange: `BusFailure`, locally or as INIT's fatal fault. -/
def Stop.isBusFailure : Stop → Bool
  | .fail .busFailure => true
  | .fatal .busFailure => true
  | _ => false

/-- The trace grew by `new`, and a failed exchange stands in it exactly when the run stopped by one, as the last
event. -/
def Accounts {α : Type} (s : State) (r : Run α) : Prop :=
  ∃ new, r.state.trace = s.trace ++ new ∧
    match r with
    | .go _ _ => Clean new
    | .stop w _ => if w.isBusFailure then EndsFailed new else Clean new

theorem Accounts.go {α : Type} {a : α} {s t : State} (new : List Event) (h : t.trace = s.trace ++ new)
    (hc : Clean new) : Accounts s (Run.go a t) := ⟨new, h, hc⟩

theorem Accounts.stay {α : Type} (a : α) (s : State) : Accounts s (Run.go a s) := .go [] (by simp) Clean.nil

/-- A stop by anything but a failed exchange, with nothing done. -/
theorem Accounts.stop {α : Type} {w : Stop} {s : State} (h : w.isBusFailure = false) :
    Accounts s (Run.stop w s : Run α) := ⟨[], by simp, by simp [h, Clean.nil]⟩

/-- Sequencing. -/
theorem Accounts.bind {α β : Type} {s : State} {r : Run α} {f : α → State → Run β} (h1 : Accounts s r)
    (h2 : ∀ a u, r = .go a u → Accounts u (f a u)) : Accounts s (r.bind f) := by
  obtain ⟨n1, e1, c1⟩ := h1
  cases r with
  | stop w u => exact ⟨n1, e1, c1⟩
  | go a u =>
    obtain ⟨n2, e2, c2⟩ := h2 a u rfl
    refine ⟨n1 ++ n2, ?_, ?_⟩
    · rw [← List.append_assoc, ← e1]
      exact e2
    · rw [Run.bind_go]
      cases hf : f a u with
      | go b v => rw [hf] at c2; exact c1.append c2
      | stop w v =>
        rw [hf] at c2
        revert c2
        dsimp only
        split
        · exact fun c2 => c2.after c1
        · exact fun c2 => c1.append c2

/-- INIT's lifting keeps the account: the only local failure that reaches it is `BusFailure`. -/
theorem Accounts.fatalOnFail {α : Type} {s : State} {r : Run α} (h : Accounts s r)
    (hb : ∀ e u, r = .stop (.fail e) u → e = .busFailure) : Accounts s r.fatalOnFail := by
  obtain ⟨new, e, c⟩ := h
  refine ⟨new, by rw [Run.fatalOnFail_state]; exact e, ?_⟩
  rcases r with ⟨a, u⟩ | ⟨f | _ | _, u⟩
  · exact c
  · cases hb f u rfl; exact c
  · exact c
  · exact c

/-- Events emitted before a run stand before it in the account. -/
theorem Accounts.afterEvents {α : Type} {s u : State} {r : Run α} (new : List Event) (h : u.trace = s.trace ++ new)
    (hc : Clean new) (hr : Accounts u r) : Accounts s r :=
  Accounts.bind (r := .go () u) (f := fun _ _ => r) (.go new h hc) (by rintro _ _ h; cases h; exact hr)

/-! ## The operations -/

theorem exchange_trace (k : BusKind) (header : Byte) (sent : List Byte) (n : Nat) (s : State) :
    (exchange k header sent n s).2.trace = s.trace ++ [.bus k header sent (exchange k header sent n s).1] := rfl

/-- An exchange followed by a stop on its failure. -/
theorem accounts_exchange {α : Type} {k : BusKind} {header : Byte} {sent : List Byte} {n : Nat} {s : State}
    {ok : Run α} (h : (exchange k header sent n s).1.ok = true → Accounts (exchange k header sent n s).2 ok) :
    Accounts s
      (if (exchange k header sent n s).1.ok then ok else .stop (.fail .busFailure) (exchange k header sent n s).2) := by
  split
  · rename_i hok
    exact Accounts.afterEvents _ (exchange_trace _ _ _ _ _) (by simp [Clean, Event.failedExchange, hok]) (h hok)
  · rename_i hok
    refine ⟨_, exchange_trace _ _ _ _ _, [], _, rfl, ?_, Clean.nil⟩
    simpa [Event.failedExchange] using hok

theorem drain_accounts (s : State) : Accounts s (drain s) := by
  unfold drain
  apply accounts_exchange
  intro _
  dsimp only
  split
  · exact accounts_exchange fun _ => .go [_] rfl (by simp [Clean, Event.failedExchange])
  · exact .stay _ _

theorem flush_accounts (s : State) : Accounts s (flush s) := accounts_exchange fun _ => .stay _ _

theorem interp_accounts (status : Byte) (trig : Trigger) (s : State) : Accounts s (interp status trig s) := by
  unfold interp
  split
  · exact (drain_accounts s).bind fun _ u _ => (flush_accounts u).bind fun _ v _ => .stay _ v
  · exact .stay _ s
  · split
    · exact (drain_accounts s).bind fun _ u _ => .stay _ u
    · exact .stay _ s
  · exact .stay _ s
  all_goals exact .go [_] rfl (by simp [Clean, Event.failedExchange])

theorem interpreted_accounts (trig : Trigger) (k : BusKind) (header : Byte) (sent : List Byte) (n : Nat) (s : State) :
    Accounts s (interpreted trig (exchange k header sent n s)) :=
  accounts_exchange fun _ => (interp_accounts _ _ _).bind fun _ u _ => .stay _ u

theorem busStrobe_accounts (c : Byte) (s : State) : Accounts s (busStrobe c s) := interpreted_accounts _ _ _ _ _ _
theorem busWrite1_accounts (a : Addr) (v : Byte) (s : State) : Accounts s (busWrite1 a v s) :=
  interpreted_accounts _ _ _ _ _ _
theorem busRead1_accounts (a : Addr) (s : State) : Accounts s (busRead1 a s) := interpreted_accounts _ _ _ _ _ _
theorem busWriteN_accounts (a : Addr) (p : List Byte) (s : State) : Accounts s (busWriteN a p s) :=
  interpreted_accounts _ _ _ _ _ _
theorem busReadN_accounts (a : Addr) (n : Nat) (s : State) : Accounts s (busReadN a n s) :=
  interpreted_accounts _ _ _ _ _ _

/-- The result of an interpreted primitive on a failed answer: its event and the stop, nothing interpreted. -/
theorem interpreted_failed {trig : Trigger} {k : BusKind} {header : Byte} {sent : List Byte} {n : Nat} {s : State}
    {a : Answer} {rest : List Answer} (h : s.env.answers = a :: rest) (hf : a.ok = false) (hn : a.data.length = n) :
    interpreted trig (exchange k header sent n s) =
      .stop (.fail .busFailure) { s with trace := s.trace ++ [.bus k header sent a], env := s.env.used rest 1 } := by
  have ha := nextAnswer_decided (n := n) h hn
  unfold interpreted exchange
  simp [ha, hf, afterAnswer_decided h, State.emit, State.setEnv]

end Sys2Proof.Machine
end

