-- ==== Sys2Proof/Laws/PerInstr.lean ====
section
/-! SUPPORT. The family of statements made per instruction: the encoder's words carry the fixed bits of the
instruction's row of spec/opcode_table.json (30_encoding.md R91, R93, R95, R96). -/

namespace Sys2Proof.Laws.TableRow

/-- The fixed bits of a row: the format, the value of the top field (`op` in bits 39:36 of a command word, the control
bits 7:6 of a header), and how many low bits of `idx` are fixed and to what. -/
structure Row where
  command : Bool
  top : Nat
  idxBits : Nat
  idx : Nat
deriving DecidableEq, Repr

/-- The row of each instruction. -/
def row : Instr → Row
  | .cfgw _ _ => ⟨true, 0x1, 0, 0⟩
  | .cfgr _ => ⟨true, 0x2, 0, 0⟩
  | .setfreq _ => ⟨true, 0x3, 0, 0⟩
  | .setbw _ => ⟨true, 0x4, 0, 0⟩
  | .setdev _ => ⟨true, 0x5, 0, 0⟩
  | .setpwr _ => ⟨true, 0x6, 0, 0⟩
  | .setmod => ⟨true, 0x7, 0, 0⟩
  | .wrreg _ _ => ⟨true, 0x8, 2, 0⟩
  | .rdreg _ => ⟨true, 0x8, 2, 1⟩
  | .wrburst _ _ => ⟨true, 0x8, 2, 2⟩
  | .rdburst _ _ => ⟨true, 0x8, 2, 3⟩
  | .interpW _ => ⟨true, 0x9, 1, 0⟩
  | .interpR _ => ⟨true, 0x9, 1, 1⟩
  | .init => ⟨true, 0xA, 0, 0⟩
  | .beginrx => ⟨true, 0xB, 0, 0⟩
  | .update => ⟨true, 0xC, 0, 0⟩
  | .strobe _ => ⟨true, 0xD, 0, 0⟩
  | .reserved0 => ⟨true, 0x0, 0, 0⟩
  | .reservedE => ⟨true, 0xE, 0, 0⟩
  | .reservedF => ⟨true, 0xF, 0, 0⟩
  | .hdrWrite1 _ _ => ⟨false, 0, 0, 0⟩
  | .hdrWriteN _ _ => ⟨false, 1, 0, 0⟩
  | .hdrRead1 _ => ⟨false, 2, 0, 0⟩
  | .hdrReadN _ _ => ⟨false, 3, 0, 0⟩

/-- Some words carry the fixed bits of a row. -/
def Matches (r : Row) : Bits → Prop
  | .cmd40 w => r.command = true ∧ w.toNat / 2 ^ 36 = r.top ∧ w.toNat / 2 ^ 32 % 2 ^ r.idxBits = r.idx
  | .hdr8 (h :: _) => r.command = false ∧ h.toNat / 2 ^ 6 = r.top
  | .hdr8 [] => False

/-- The encoder's words carry the fixed bits of the instruction's row. -/
def Statement (i : Instr) : Prop := Matches (row i) (encode i)

/-- A command word carries its row's bits. -/
theorem of_cmdWord {op idx : BitVec 4} {arg : Word32} {k v : Nat} (hk : k ≤ 4) (hv : idx.toNat % 2 ^ k = v) :
    Matches ⟨true, op.toNat, k, v⟩ (.cmd40 (cmdWord op idx arg)) := by
  have ha := arg.isLt
  have hi := idx.isLt
  refine ⟨rfl, ?_, ?_⟩
  · dsimp only
    rw [cmdWord_toNat]; omega
  · dsimp only
    rw [cmdWord_toNat, ← hv]; interval_cases k <;> omega

/-- A frame carries its row's bits. -/
theorem of_header {r : BitVec 2} {a : Addr} {rest : List Byte} :
    Matches ⟨false, r.toNat, 0, 0⟩ (.hdr8 ((r ++ a) :: rest)) := by
  have := a.isLt
  exact ⟨rfl, by dsimp only; rw [header_toNat]; omega⟩

theorem cfgw (idx : CsrIdx) (value : Word32) : Statement (.cfgw idx value) := of_cmdWord (by omega) (Nat.mod_one _)
theorem cfgr (idx : CsrIdx) : Statement (.cfgr idx) := of_cmdWord (by omega) (Nat.mod_one _)
theorem setfreq (hz : Word32) : Statement (.setfreq hz) := of_cmdWord (by omega) rfl
theorem setbw (hz : Word32) : Statement (.setbw hz) := of_cmdWord (by omega) rfl
theorem setdev (hz : Word32) : Statement (.setdev hz) := of_cmdWord (by omega) rfl
theorem setpwr (dbm : Byte) : Statement (.setpwr dbm) := of_cmdWord (by omega) rfl
theorem setmod : Statement .setmod := of_cmdWord (by omega) rfl
theorem wrreg (addr : Addr) (value : Byte) : Statement (.wrreg addr value) := of_cmdWord (by omega) rfl
theorem rdreg (addr : Addr) : Statement (.rdreg addr) := of_cmdWord (by omega) rfl
theorem wrburst (addr : Addr) (len : Byte) : Statement (.wrburst addr len) := of_cmdWord (by omega) rfl
theorem rdburst (addr : Addr) (len : Byte) : Statement (.rdburst addr len) := of_cmdWord (by omega) rfl
theorem interpW (status : Byte) : Statement (.interpW status) := of_cmdWord (by omega) rfl
theorem interpR (status : Byte) : Statement (.interpR status) := of_cmdWord (by omega) rfl
theorem init : Statement .init := of_cmdWord (by omega) rfl
theorem beginrx : Statement .beginrx := of_cmdWord (by omega) rfl
theorem update : Statement .update := of_cmdWord (by omega) rfl
theorem strobe (byte : Byte) : Statement (.strobe byte) := of_cmdWord (by omega) rfl
theorem reserved0 : Statement .reserved0 := of_cmdWord (by omega) rfl
theorem reservedE : Statement .reservedE := of_cmdWord (by omega) rfl
theorem reservedF : Statement .reservedF := of_cmdWord (by omega) rfl
theorem hdrWrite1 (addr : Addr) (value : Byte) : Statement (.hdrWrite1 addr value) := of_header
theorem hdrWriteN (addr : Addr) (payload : List Byte) : Statement (.hdrWriteN addr payload) := of_header
theorem hdrRead1 (addr : Addr) : Statement (.hdrRead1 addr) := of_header
theorem hdrReadN (addr : Addr) (len : Byte) : Statement (.hdrReadN addr len) := of_header

end Sys2Proof.Laws.TableRow
end

