-- ==== Sys2Proof/Tests/Slice0.lean ====
section
/-! SUPPORT. Tests. Expected results come from the spec's own vectors (95_test_vectors.md) or its encoding tables
(30_encoding.md R91, R95, R96), not from the model. -/

namespace Sys2Proof.Tests

-- One test after another: all at once they take one thread each.
set_option Elab.async false

open Sys2Proof Sys2Proof.Machine

/-! ## Well-formedness: each check refuses an ill-formed term (R61, R66, R67, R96) -/

theorem test_wf_write1_status : (Instr.hdrWrite1 0x30 0).wf = false := by decide
theorem test_wf_writeN_status : (Instr.hdrWriteN 0x3D [1]).wf = false := by decide
theorem test_wf_writeN_empty : (Instr.hdrWriteN 0x10 []).wf = false := by decide
theorem test_wf_writeN_nine : (Instr.hdrWriteN 0x10 [1, 2, 3, 4, 5, 6, 7, 8, 9]).wf = false := by decide
theorem test_wf_read1_status : (Instr.hdrRead1 0x3D).wf = false := by decide
theorem test_wf_readN_status_two : (Instr.hdrReadN 0x30 2).wf = false := by decide
theorem test_wf_readN_zero : (Instr.hdrReadN 0x3F 0).wf = false := by decide
theorem test_wf_edges : (Instr.hdrWrite1 0x2F 0).wf = true ∧ (Instr.hdrRead1 0x3E).wf = true ∧
    (Instr.hdrReadN 0x30 1).wf = true ∧ (Instr.hdrReadN 0x3F 255).wf = true := by decide

/-! ## Decoding: one word for every constructor, written from R91 and R96 -/

theorem test_decode_csr :
    decode (.cmd40 0x17FFFFFFFF) = .instr (.cfgw 7 0xFFFFFFFF) ∧
    decode (.cmd40 0x2D00000000) = .instr (.cfgr 0xD) := by decide

theorem test_decode_set :
    decode (.cmd40 0x3019DD1800) = .instr (.setfreq 433920000) ∧
    decode (.cmd40 0x40000318F8) = .instr (.setbw 203000) ∧
    decode (.cmd40 0x500000B9F7) = .instr (.setdev 47607) ∧
    decode (.cmd40 0x60FFFFFFF6) = .instr (.setpwr 0xF6) ∧
    decode (.cmd40 0x7FFFFFFFFF) = .instr .setmod := by decide

theorem test_decode_bus :
    decode (.cmd40 0x8000000508) = .instr (.wrreg 0x08 0x05) ∧
    decode (.cmd40 0x8D00000010) = .instr (.rdreg 0x10) ∧
    decode (.cmd40 0x820008003E) = .instr (.wrburst 0x3E 8) ∧
    decode (.cmd40 0x830004003F) = .instr (.rdburst 0x3F 4) ∧
    decode (.cmd40 0xD00000003A) = .instr (.strobe 0x3A) := by decide

theorem test_decode_interp :
    decode (.cmd40 0x9000000017) = .instr (.interpW 0x17) ∧
    decode (.cmd40 0x9F00000097) = .instr (.interpR 0x97) := by decide

theorem test_decode_controller :
    decode (.cmd40 0xA000000000) = .instr .init ∧ decode (.cmd40 0xB000000000) = .instr .beginrx ∧
    decode (.cmd40 0xC000000000) = .instr .update := by decide

theorem test_decode_reserved :
    decode (.cmd40 0x0000000000) = .instr .reserved0 ∧ decode (.cmd40 0xE123456789) = .instr .reservedE ∧
    decode (.cmd40 0xFFFFFFFFFF) = .instr .reservedF := by decide

theorem test_decode_headers :
    decode (.hdr8 [0x0D, 0x10]) = .instr (.hdrWrite1 0x0D 0x10) ∧
    decode (.hdr8 [0x7E, 0x60, 0x00]) = .instr (.hdrWriteN 0x3E [0x60, 0x00]) ∧
    decode (.hdr8 [0x90, 0x00]) = .instr (.hdrRead1 0x10) ∧
    decode (.hdr8 [0xFF, 0x00, 0x00, 0x00]) = .instr (.hdrReadN 0x3F 3) ∧
    decode (.hdr8 [0xF1, 0x00]) = .instr (.hdrReadN 0x31 1) := by decide

/-- Headers that R96 says are never formed, and frames without or with too many payload slots. -/
theorem test_decode_rejected :
    decode (.hdr8 [0x30, 0x00]) = .rejected .headerNeverFormed ∧
    decode (.hdr8 [0x70, 0x00]) = .rejected .headerNeverFormed ∧
    decode (.hdr8 [0xB0, 0x00]) = .rejected .headerNeverFormed ∧
    decode (.hdr8 [0xF0, 0x00, 0x00]) = .rejected .tooLong ∧
    decode (.hdr8 [0x34]) = .rejected .noPayload := by decide

/-! ## States for the one-step tests -/

/-- A successful answer with status 0x00 (IDLE, count 0). -/
def quiet : Answer := ⟨true, 0x00, []⟩
/-- The same with one data byte. -/
def quietByte (v : Byte) : Answer := ⟨true, 0x00, [v]⟩
/-- A successful answer with a given status byte. -/
def status (v : Byte) : Answer := ⟨true, v, []⟩
/-- A failed exchange. -/
def failed : Answer := ⟨false, 0x00, []⟩

/-- IdleReady as INIT leaves it at 26 MHz and 433.92 MHz (95_test_vectors.md P1, step 7), with given answers. -/
def ready (answers : List Answer) : State :=
  { State.reset with
    ctl := .idleReady
    dev := { oscHz := some 26000000, freqHz := some 433920000, paSel := 1, paBuf := #v[0x60, 0, 0, 0, 0, 0, 0, 0] }
    env := { emptyEnv with answers := answers } }

/-- The same with a `CFG_MODEM` value. -/
def readyModem (modem : Byte) (answers : List Answer) : State :=
  { ready answers with radio := { resetRadio with modem := modem } }

/-- The same with another oscillator. -/
def readyOsc (osc : Word32) (answers : List Answer) : State :=
  { ready answers with dev := { (ready []).dev with oscHz := some osc } }

/-- The same with another carrier. -/
def readyFreq (f : Word32) (answers : List Answer) : State :=
  { ready answers with dev := { (ready []).dev with freqHz := some f } }

/-- Faulted by a version mismatch. -/
def faulted : State := { ready [] with ctl := .faulted, fault := 0x05 }

/-- Uninitialized, with the levels and answers that let INIT run (95_test_vectors.md P1, without `FIXED_REGS`). -/
def booting (version : Byte) : State :=
  { State.reset with
    radio := { resetRadio with freqHz := 433920000, bwHz := 203000, devHz := 47607, modem := 0x41, pkt := 0x114 }
    env := { emptyEnv with
      levels := [true, false, false]
      answers := [quiet, quiet, quiet, quiet, quietByte 0x0C, quiet, quiet, quiet, quiet, quietByte 0x10, quiet, quiet,
        quiet, quietByte 0x00, quietByte version] } }

/-- Presents words to a state. -/
def with1 (b : Bits) (s : State) : State := { s with env := { s.env with inputs := [.words b] } }

/-- The completion and the new events of one step on a command word. -/
def after (w : CmdWord) (s : State) : Option (Bool × Word32 × List Event) :=
  match step (with1 (.cmd40 w) s) with
  | .next t => some (t.ok, t.res, t.trace.drop s.trace.length)
  | _ => none

/-- The new events of one step on a bus frame. -/
def onBus (bytes : List Byte) (s : State) : Option (List Event) :=
  match step (with1 (.hdr8 bytes) s) with
  | .next t => some (t.trace.drop s.trace.length)
  | _ => none

/-- One thing about the state after one step on a command word. -/
def look {α : Type} (w : CmdWord) (s : State) (f : State → α) : Option α :=
  match step (with1 (.cmd40 w) s) with
  | .next t => some (f t)
  | _ => none

/-! ## One step each (95_test_vectors.md sections 2 to 10) -/

theorem test_cfgw_keeps_low_bits : after 0x14000001F6 (ready []) = some (true, 0xF6, []) := by decide +kernel
theorem test_cfgw_reserved_edge : after 0x1700000003 (ready []) = some (false, 0x08, []) := by decide +kernel

theorem test_cfgr_sign_extends :
    after 0x2400000000 { ready [] with radio := { resetRadio with pwrDbm := 0xF6 } } = some (true, 0xFFFFFFF6, []) := by
  decide +kernel
theorem test_cfgr_ctl_state :
    after 0x2D00000000 { ready [] with ctl := .receiving, irqArmed := true, nq := 1 } = some (true, 0xF5, []) := by
  decide +kernel

theorem test_setfreq_433920000 : after 0x3019DD1800 (ready [quiet, quiet, quiet]) =
    some (true, 0x10B071, [.bus .write1 0x0D [0x10] quiet, .bus .write1 0x0E [0xB0] quiet,
      .bus .write1 0x0F [0x71] quiet]) := by decide +kernel
theorem test_setfreq_half_rounds_up : after 0x3011E1A380 (readyOsc 16777216 [quiet, quiet, quiet]) =
    some (true, 0x11E1A4, [.bus .write1 0x0D [0x11] quiet, .bus .write1 0x0E [0xE1] quiet,
      .bus .write1 0x0F [0xA4] quiet]) := by decide +kernel

theorem test_setbw_tie_goes_to_earlier : after 0x40000B2872 (ready [quietByte 0x0C, quiet]) =
    some (true, 0x0C, [.bus .read1 0x90 [] (quietByte 0x0C), .bus .write1 0x10 [0x0C] quiet]) := by decide +kernel
theorem test_setbw_keeps_low_nibble : after 0x40000318F8 (ready [quietByte 0xFF, quiet]) =
    some (true, 0x8F, [.bus .read1 0x90 [] (quietByte 0xFF), .bus .write1 0x10 [0x8F] quiet]) := by decide +kernel

theorem test_setdev_anomaly : after 0x500000031F (ready [quiet]) =
    some (true, 0x10, [.bus .write1 0x15 [0x10] quiet]) := by decide +kernel
theorem test_setdev_none_below : after 0x5000000000 (ready [quiet]) =
    some (true, 0x67, [.bus .write1 0x15 [0x67] quiet]) := by decide +kernel

theorem test_setpwr_slot0 : after 0x6000000000 (ready [quiet]) =
    some (true, 0x160, [.bus .writeN 0x7E [0x60, 0, 0, 0, 0, 0, 0, 0] quiet]) := by decide +kernel
theorem test_setpwr_ook_slot1 :
    after 0x600000000A { readyModem 0x6B [quiet] with dev := (readyFreq 868300000 []).dev } =
    some (true, 0x2C5, [.bus .writeN 0x7E [0x00, 0xC5, 0, 0, 0, 0, 0, 0] quiet]) := by decide +kernel

theorem test_setmod_ook : after 0x7000000000 (readyModem 0x6B [quiet, quietByte 0x10, quiet]) =
    some (true, 0x113B, [.bus .write1 0x12 [0x3B] quiet, .bus .read1 0xA2 [] (quietByte 0x10),
      .bus .write1 0x22 [0x11] quiet]) := by decide +kernel
theorem test_setmod_4fsk_forces_manchester_off :
    look 0x7000000000 (readyModem 0x0C [quiet, quietByte 0x10, quiet]) (fun t => (t.res, t.radio.modem)) =
    some (0x1040, 0x0C) := by decide +kernel

theorem test_wrreg_edge_of_range : after 0x800000C03E (ready [quiet]) =
    some (true, 0x00, [.bus .write1 0x3E [0xC0] quiet]) := by decide +kernel
theorem test_wrreg_status_range : after 0x800000013D (ready [quiet]) = some (false, 0x04, []) := by decide +kernel

theorem test_rdreg_status_header : after 0x8100000031 (ready [quietByte 0x14]) =
    some (true, 0x0014, [.bus .read1 0xF1 [] (quietByte 0x14)]) := by decide +kernel
theorem test_rdreg_above_range : after 0x810000003E (ready [quietByte 0x60]) =
    some (true, 0x0060, [.bus .read1 0xBE [] (quietByte 0x60)]) := by decide +kernel

theorem test_wrburst_two : after 0x820002003E (ready [quiet]) =
    some (true, 0x0002, [.bus .writeN 0x7E [0x60, 0x00] quiet]) := by decide +kernel
theorem test_wrburst_nine : after 0x820009003E (ready [quiet]) = some (false, 0x05, []) := by decide +kernel

theorem test_rdburst_four : after 0x830004003F (ready [⟨true, 0x00, [1, 2, 3, 4]⟩]) =
    some (true, 0x0004, [.bus .readN 0xFF [] ⟨true, 0x00, [1, 2, 3, 4]⟩, .data .rdburst [1, 2, 3, 4]]) := by
  decide +kernel
theorem test_rdburst_address_before_length : after 0x8300000033 (ready []) = some (false, 0x03, []) := by
  decide +kernel

theorem test_interpW_defers : after 0x9000000017 (ready []) = some (true, 0x017, []) := by decide +kernel
theorem test_interpW_overflow_flushes : after 0x9000000030 (ready [⟨true, 0x33, [0xC3]⟩, ⟨true, 0, [7, 8, 9]⟩, quiet]) =
    some (true, 0x330, [.bus .read1 0xFB [] ⟨true, 0x33, [0xC3]⟩, .bus .readN 0xFF [] ⟨true, 0, [7, 8, 9]⟩,
      .data .drain [7, 8, 9], .bus .strobe 0x3A [] quiet]) := by decide +kernel

theorem test_interpR_drains_the_smaller : after 0x9100000017 (ready [⟨true, 0x12, [0x07]⟩, ⟨true, 0, [5, 6]⟩]) =
    some (true, 0x217, [.bus .read1 0xFB [] ⟨true, 0x12, [0x07]⟩, .bus .readN 0xFF [] ⟨true, 0, [5, 6]⟩,
      .data .drain [5, 6]]) := by decide +kernel
theorem test_interpR_failed_count : after 0x9100000017 (ready [⟨false, 0x17, [0x07]⟩]) =
    some (false, 0x02, [.bus .read1 0xFB [] ⟨false, 0x17, [0x07]⟩]) := by decide +kernel

theorem test_init_brings_up :
    look 0xA000000000 (booting 0x14) (fun t => (t.ok, t.res, t.ctlWord, t.dev, t.trace.length)) =
    some (true, 0x1400, 0x34, (ready []).dev, 27) := by decide +kernel
theorem test_init_version_mismatch :
    look 0xA000000000 (booting 0x04) (fun t => (t.ok, t.res, t.fault, t.ctl)) =
    some (false, 0xF, 0x05, .faulted) := by decide +kernel

theorem test_beginrx_third_try : after 0xB000000000 (ready [quiet, status 0x60, status 0x10]) =
    some (true, 3, [.gpio (.armInterrupt 0), .gpio .installHandler, .bus .strobe 0x34 [] quiet, .delay 40,
      .bus .strobe 0x34 [] (status 0x60), .log (.state .settling), .delay 40,
      .bus .strobe 0x34 [] (status 0x10), .ctl .receiving]) := by decide +kernel
theorem test_beginrx_exhausted :
    look 0xB000000000 (ready [quiet, quiet, quiet]) (fun t => (t.ok, t.res, t.ctl, t.irqArmed)) =
    some (false, 0x06, .idleReady, true) := by decide +kernel

theorem test_update_takes :
    look 0xC000000000 { ready [] with irqArmed := true, nq := 1 } (fun t => (t.ok, t.res, t.nq)) =
    some (true, 1, 0) := by decide +kernel
theorem test_update_unarmed_times_out : after 0xC000000000 (ready []) = some (false, 0x07, []) := by decide +kernel

theorem test_strobe_any_byte : after 0xD0000000FF (ready [status 0x10]) =
    some (true, 0x10, [.bus .strobe 0xFF [] (status 0x10)]) := by decide +kernel

theorem test_reserved_fatal :
    look 0xE123456789 (ready []) (fun t => (t.ok, t.res, t.fault, t.ctl)) = some (false, 0xF, 0x01, .faulted) := by
  decide +kernel
theorem test_reserved_refused_when_faulted :
    look 0x0000000000 faulted (fun t => (t.ok, t.res, t.fault)) = some (false, 0x01, 0x05) := by decide +kernel

theorem test_refused_before_init : after 0x8000000508 State.reset = some (false, 0x01, []) := by decide +kernel

theorem test_hdr_write1 : onBus [0x0D, 0x10] (ready [quiet]) = some [.bus .write1 0x0D [0x10] quiet] := by
  decide +kernel
theorem test_hdr_writeN : onBus [0x7E, 1, 2] (ready [quiet]) = some [.bus .writeN 0x7E [1, 2] quiet] := by
  decide +kernel
theorem test_hdr_read1 : onBus [0x90, 0] (ready [quietByte 0x8C]) = some [.bus .read1 0x90 [] (quietByte 0x8C)] := by
  decide +kernel
theorem test_hdr_readN_status : onBus [0xF1, 0] (ready [quietByte 0x14]) =
    some [.bus .read1 0xF1 [] (quietByte 0x14)] := by decide +kernel

/-- The host's word is the next step's instruction. -/
theorem test_withFetchWord : (State.reset.withFetchWord 40 0x2000000000).nextInput =
    some (.words (.cmd40 0x2000000000)) := by decide

end Sys2Proof.Tests
end

