-- ==== Sys2Proof/Tests/Witnesses.lean ====
section
/-! SUPPORT. Witnesses: for every statement of Certificates/Slice0/Obligations.lean that has hypotheses, concrete values
that meet all of them together, for each clause and at the edges of its range. `witness_X` is for `Obligations.X`. -/

namespace Sys2Proof.Tests

-- One test after another: all at once they take one thread each.
set_option Elab.async false

open Sys2Proof Sys2Proof.Machine

/-! ## Encoding and the step -/

theorem witness_DecodeOfEncodeIsTheInstruction : (Instr.cfgw 15 0xFFFFFFFF).wf = true ∧
    (Instr.hdrWriteN 0x2F [1, 2, 3, 4, 5, 6, 7, 8]).wf = true ∧ (Instr.hdrReadN 0x3D 1).wf = true := by decide

theorem witness_DecodedInstructionsAreWellFormed :
    decode (.cmd40 0xFFFFFFFFFF) = .instr .reservedF ∧ decode (.hdr8 [0xFD, 0]) = .instr (.hdrReadN 0x3D 1) := by decide

theorem witness_UnnamedBitsHaveNoEffect :
    (0x0CFFFFFFC0 : CmdWord) &&& namedBits (decodeCommand 0x8100000010) = 0 := by decide

theorem witness_StepRunsTheDecodedInstruction :
    (with1 (.cmd40 0x2D00000000) (ready [])).env.inputs = .words (.cmd40 0x2D00000000) :: [] ∧
    decode (.cmd40 0x2D00000000) = .instr (.cfgr 0xD) := by decide

/-- A state to which a power-on is presented. -/
def poweringOn : State := { ready [] with env := { emptyEnv with inputs := [.powerOn] } }
/-- A state to which an edge is presented, with the interrupt armed and a given policy and queue. -/
def edgeAt (policy : BitVec 2) (n : Nat) (e : Edge) : State :=
  { ready [] with ctl := .receiving, irqArmed := true, irqPolicy := policy, nq := n,
                  env := { emptyEnv with inputs := [.edge e] } }

theorem witness_StepWithoutAnInstruction :
    (ready []).env.inputs = [] ∧ poweringOn.env.inputs = .powerOn :: [] ∧
    (with1 (.hdr8 [0x30, 0]) (ready [])).env.inputs = .words (.hdr8 [0x30, 0]) :: [] ∧
    decode (.hdr8 [0x30, 0]) = .rejected .headerNeverFormed := by decide

theorem witness_EdgePostsOneNotification :
    (edgeAt 2 0 .falling).env.inputs = .edge .falling :: [] ∧ (edgeAt 2 0 .falling).irqPolicy ≠ 3 ∧
    (edgeAt 0 1 .rising).env.inputs = .edge .rising :: [] ∧ (edgeAt 0 1 .rising).irqPolicy ≠ 3 := by decide

/-! ## Reset and invariants -/

/-- A configuration that R98 forbids: code 1 is not RX. -/
def badConfig : Config :=
  { Config.suggested with
    stateMap := #v[.rx, .idle, .tx, .rxFifoOverflow, .txFifoOverflow, .calibrate, .settling, .rxAbort] }

theorem witness_ResetSatisfiesTheInvariant : Config.suggested.wf = true ∧ badConfig.wf = false := by decide

theorem ready_inv (answers : List Answer) : (ready answers).Inv where
  cfgWf := by change Config.suggested.wf = true; decide
  stable := .inr (.inl rfl)
  faultIff := by simp [ready, State.reset, State.resetOf]
  faultCode := by simp [ready, State.reset, State.resetOf]
  ready := fun _ => ⟨rfl, rfl⟩
  osc := by simp [Tests.ready]
  before := by intro h; cases h
  carrier := by intro f h; cases h; decide
  edge := by simp [Tests.ready, State.reset, State.resetOf, resetRadio]
  policy := by simp [Tests.ready, State.reset, State.resetOf]
  queue := Nat.zero_le _
  armed := by intro h; exact absurd rfl h
  slots := .inr rfl
  upper := by intro k h h2; interval_cases k <;> rfl

theorem with1_inv {s : State} (h : s.Inv) (b : Bits) : (with1 b s).Inv :=
  ⟨h.cfgWf, h.stable, h.faultIff, h.faultCode, h.ready, h.osc, h.before, h.carrier, h.edge, h.policy, h.queue,
    h.armed, h.slots, h.upper⟩

theorem witness_EveryStepKeepsTheInvariant :
    (with1 (.cmd40 0xB000000000) (ready [status 0x10])).Inv ∧
    ∃ t, step (with1 (.cmd40 0xB000000000) (ready [status 0x10])) = .next t :=
  ⟨with1_inv (ready_inv _) _, _, rfl⟩

theorem witness_ControllerFollowsItsTransitionTable :
    (with1 (.cmd40 0xB000000000) (ready [status 0x10])).env.inputs.head? ≠ some .powerOn ∧
    ∃ t, step (with1 (.cmd40 0xB000000000) (ready [status 0x10])) = .next t := ⟨by decide, _, rfl⟩

theorem witness_EveryStepKeepsTheBusDiscipline :
    (with1 (.cmd40 0x8000000508) (ready [quiet])).cfg.wf = true ∧
    (∀ e ∈ (with1 (.cmd40 0x8000000508) (ready [quiet])).trace, e.accessOk = true) ∧
    ∃ t, step (with1 (.cmd40 0x8000000508) (ready [quiet])) = .next t := ⟨by decide, by decide, _, rfl⟩

theorem witness_FaultedIsTerminal :
    (with1 (.cmd40 0xA000000000) faulted).ctl = .faulted ∧
    (with1 (.cmd40 0xA000000000) faulted).env.inputs.head? ≠ some .powerOn ∧
    ∃ t, step (with1 (.cmd40 0xA000000000) faulted) = .next t := ⟨by decide, by decide, _, rfl⟩

/-- Does the register a function reads change when an instruction is executed? -/
def changes {α : Type} [DecidableEq α] (i : Instr) (s : State) (f : State → α) : Bool :=
  match exec i s with
  | .next t => decide (f t ≠ f s)
  | _ => false

/-- Every register of the statement has an instruction that changes it. -/
theorem witness_EachRegisterHasItsWriters :
    changes (.cfgw 0 1) (ready []) State.radio = true ∧
    changes .init (booting 0x14) (fun s => s.dev.oscHz) = true ∧
    changes (.setfreq 0) (ready [quiet, quiet, quiet]) (fun s => s.dev.freqHz) = true ∧
    changes (.setpwr 10) (readyFreq 868300000 [quiet]) (fun s => s.dev.paSel) = true ∧
    changes (.setpwr 10) (readyFreq 868300000 [quiet]) (fun s => s.dev.paBuf) = true ∧
    changes (.setpwr 10) { ready [] with dev := resetDev } State.fault = true ∧
    changes .reserved0 (ready []) State.fault = true ∧
    changes .beginrx (ready [status 0x10]) State.ctl = true ∧
    changes .setmod (readyModem 0x02 []) State.ctl = true ∧
    changes (.cfgr 0) (ready []) State.res = true ∧
    changes (.cfgr 0) (ready []) State.ok = true ∧
    changes .beginrx (ready [status 0x10]) State.irqArmed = true ∧
    changes .update { ready [] with irqArmed := true, nq := 1 } State.nq = true ∧
    changes .init (booting 0x14) (fun s => s.env.levels) = true ∧
    changes .update { ready [] with irqArmed := true, env := { emptyEnv with waits := [true] } }
      (fun s => s.env.waits) = true := by decide +kernel

theorem witness_BusCommandsChangeOnlyTheResult :
    (∃ t, exec (.wrreg 0x3E 0xC0) (ready [quiet]) = .next t) ∧
    (∃ t, exec (.rdreg 0x31) (ready [quietByte 0x14]) = .next t) ∧
    (∃ t, exec (.wrburst 0x3E 8) (ready [quiet]) = .next t) ∧
    (∃ t, exec (.rdburst 0x3F 1) (ready [quietByte 7]) = .next t) ∧
    (∃ t, exec (.strobe 0x34) (ready [status 0x10]) = .next t) ∧
    (∃ t, exec (.interpW 0x20) (ready []) = .next t) ∧
    (∃ t, exec (.interpR 0x7F) (ready []) = .next t) ∧
    (∃ t, exec (.setbw 203000) (ready [quietByte 0, failed]) = .next t) ∧
    (∃ t, exec (.setdev 500) (ready [failed]) = .next t) := by
  refine ⟨⟨_, rfl⟩, ⟨_, rfl⟩, ⟨_, rfl⟩, ⟨_, rfl⟩, ⟨_, rfl⟩, ⟨_, rfl⟩, ⟨_, rfl⟩, ⟨_, rfl⟩, ⟨_, rfl⟩⟩

/-! ## Admission and fatal faults -/

theorem witness_RefusedCommandHasNoEffect : refusedIn (.strobe 0x30) State.reset.ctl = true ∧
    refusedIn .init (ready []).ctl = true ∧ refusedIn .reserved0 faulted.ctl = true := by decide

theorem witness_ReservedOpIsAFatalFault : State.reset.ctl ≠ .faulted ∧ (ready []).ctl ≠ .faulted := by decide

/-- A suggested configuration whose table of band 1 is one entry short. -/
def shortTable : State :=
  { ready [] with
    cfg := { Config.suggested with paTab := Config.suggested.paTab.set 1 [0x12, 0x0E, 0x1D, 0x34, 0x60, 0x84, 0xC8] } }

theorem witness_PreconditionFaultsHaveNoOtherEffect :
    ((readyOsc 14500001 []).ctl = .idleReady ∧ (readyOsc 14500001 []).dev.oscHz = some 14500001 ∧
      2 ^ 22 ≤ ⌊((min (max (928000000 : Word32).toNat 300000000) 928000000 : Nat) : ℚ) /
        (((14500001 : Word32).toNat : ℚ) / 65536) + 1 / 2⌋₊) ∧
    ({ ready [] with dev := resetDev } : State).dev.freqHz = none ∧
    (shortTable.ctl = .idleReady ∧ shortTable.dev.freqHz = some 433920000 ∧
      (shortTable.cfg.paTab.get 1).length ≠ (if (1 : Fin 4).val ≤ 1 then 8 else 10)) ∧
    ((readyModem 0xFE []).ctl = .idleReady ∧ (readyModem 0xFE []).radio.modem.toNat % 8 = 6) ∧
    (State.reset.ctl = .uninitialized ∧
      ({ State.reset with radio := { resetRadio with oscHz := 0 } } : State).radio.oscHz = 0) := by
  refine ⟨⟨by decide, by decide, ?_⟩, by decide, by decide, by decide, by decide⟩
  have h1 : (928000000 : Word32).toNat = 928000000 := by decide
  have h2 : (14500001 : Word32).toNat = 14500001 := by decide
  rw [h1, h2]
  apply Nat.le_floor
  norm_num

/-! ## Control registers -/

theorem witness_CfgwStoresTheLowBits :
    State.reset.ctl = .uninitialized ∧ (0xFFFFFFFE : Word32).toNat % 4 ≠ 3 := by decide

theorem witness_CfgwRejectsReadOnlyAndReserved : (ready []).ctl = .idleReady ∧ 8 ≤ (8 : CsrIdx).toNat ∧
    8 ≤ (15 : CsrIdx).toNat ∧ (7 : Word32).toNat % 4 = 3 := by decide

/-! ## The SET commands -/

theorem witness_SetfreqProgramsTheCarrier :
    let s := ready [quiet, status 0x17, status 0x20]
    s.ctl = .idleReady ∧ s.dev.oscHz = some 26000000 ∧ (26000000 : Word32) ≠ 0 ∧
    s.env.answers = quiet :: status 0x17 :: status 0x20 :: [] ∧
    Smooth s.cfg .write 0 quiet ∧ Smooth s.cfg .write 0 (status 0x17) ∧ Smooth s.cfg .write 0 (status 0x20) ∧
    433920000 = min (max (433920000 : Word32).toNat 300000000) 928000000 ∧
    1093745 = ⌊((433920000 : Nat) : ℚ) / (((26000000 : Word32).toNat : ℚ) / 65536) + 1 / 2⌋₊ ∧ 1093745 < 2 ^ 22 := by
  refine ⟨by decide, by decide, by decide, by decide, by decide, by decide, by decide, by decide, ?_, by decide⟩
  have h : (26000000 : Word32).toNat = 26000000 := by decide
  rw [h]
  symm
  rw [Nat.floor_eq_iff (by positivity)]
  norm_num

theorem witness_SetbwReplacesTheHighNibble :
    let s := ready [quietByte 0xFF, quiet]
    s.ctl = .idleReady ∧ s.dev.oscHz = some 26000000 ∧ s.env.answers = quietByte 0xFF :: quiet :: [] ∧
    (quietByte 0xFF).data = [0xFF] ∧ Smooth s.cfg .read 1 (quietByte 0xFF) ∧ Smooth s.cfg .write 0 quiet ∧
    8 = nearestSelect (bwTable (26000000 : Word32).toNat) 0 ((203000 : Word32).toNat : ℚ) ∧
    (0x8F : Byte) = BitVec.ofNat 8 (16 * 8 + (0xFF : Byte).toNat % 16) := by decide +kernel

theorem witness_SetdevWritesTheDeviationByte :
    let s := ready [quiet]
    s.ctl = .idleReady ∧ s.dev.oscHz = some 26000000 ∧ s.env.answers = quiet :: [] ∧ Smooth s.cfg .write 0 quiet ∧
    s.cfg.wf = true ∧
    1 = nearestSelect (devTableOf s.cfg.devTable (26000000 : Word32).toNat) 1 ((799 : Word32).toNat : ℚ) ∧
    (0x10 : Byte) = BitVec.ofNat 8 (16 * (1 % 7) + 1 / 7) := by decide +kernel

theorem witness_SetpwrStagesAndBursts :
    let s := readyModem 0x03 [quiet]
    s.ctl = .idleReady ∧ s.dev.freqHz = some 433920000 ∧ s.env.answers = quiet :: [] ∧ Smooth s.cfg .write 0 quiet ∧
    (433920000 : Word32).toNat ≤ 464000000 ∧ 348000000 < (433920000 : Word32).toNat ∧
    (s.cfg.paTab.get 1).length = 8 ∧ (s.cfg.paTab.get 1)[paIndex 1 (0x7F : Byte).toInt]? = some 0xC0 ∧
    s.radio.modem.toNat % 8 = 3 := by decide +kernel

theorem witness_CarrierIsRecordedLastPowerIsStagedFirst :
    (∃ t, exec (.setfreq 0) State.reset = .next t ∧ t.ok = false) ∧
    ((ready [failed]).ctl = .idleReady ∧ (ready [failed]).dev.freqHz = some 433920000 ∧
      (ready [failed]).env.answers = failed :: [] ∧ failed.ok = false ∧ failed.data = [] ∧
      ((ready [failed]).cfg.paTab.get 1).length = 8 ∧
      ((ready [failed]).cfg.paTab.get 1)[paIndex 1 (0x80 : Byte).toInt]? = some 0x12) :=
  ⟨⟨_, rfl, rfl⟩, by decide +kernel⟩

theorem witness_SetmodWritesBothBytes :
    let s := readyModem 0x6B [quiet, quietByte 0x10, quiet]
    s.ctl = .idleReady ∧ s.env.answers = quiet :: quietByte 0x10 :: quiet :: [] ∧ (quietByte 0x10).data = [0x10] ∧
    Smooth s.cfg .write 0 quiet ∧ Smooth s.cfg .read 1 (quietByte 0x10) ∧
    modField s.radio.modem ≠ 0b010 ∧ modField s.radio.modem ≠ 0b101 ∧ modField s.radio.modem ≠ 0b110 ∧
    (0x3B : Byte) = modemByte s.cfg.mdmcfg2 s.radio.modem := by decide

theorem witness_ModemByteHoldsTheFourFields : Config.suggested.mdmcfg2.wf = true ∧
    Mdmcfg2Layout.wf { dcoff := 0, mod := 1, manch := 4, sync := 5 } = true := by decide

/-! ## Bus access -/

theorem witness_WrregWritesOneByte :
    (ready [quiet]).ctl = .idleReady ∧ (0x2F : Addr).toNat < 0x30 ∧ 0x3D < (0x3E : Addr).toNat ∧
    (ready [quiet]).env.answers = quiet :: [] ∧ Smooth (ready [quiet]).cfg .write 0 quiet := by decide

theorem witness_RdregReadsOneByte :
    (ready [quietByte 0x14]).ctl = .idleReady ∧ (ready [quietByte 0x14]).env.answers = quietByte 0x14 :: [] ∧
    (quietByte 0x14).data = [0x14] ∧ Smooth (ready [quietByte 0x14]).cfg .read 1 (quietByte 0x14) := by decide

theorem witness_WrburstSendsTheStagingBuffer :
    (ready [quiet]).ctl = .idleReady ∧ 0x3D < (0x3E : Addr).toNat ∧ (0x2F : Addr).toNat < 0x30 ∧
    1 ≤ (1 : Byte).toNat ∧ (8 : Byte).toNat ≤ 8 ∧
    (ready [quiet]).env.answers = quiet :: [] ∧ Smooth (ready [quiet]).cfg .write 0 quiet := by decide

theorem witness_RdburstDeliversTheBytes :
    (ready [⟨true, 0, [1, 2]⟩]).ctl = .idleReady ∧ 0x3D < (0x3F : Addr).toNat ∧ (0x2F : Addr).toNat < 0x30 ∧
    (2 : Byte) ≠ 0 ∧ (ready [⟨true, 0, [1, 2]⟩]).env.answers = ⟨true, 0, [1, 2]⟩ :: [] ∧
    Smooth (ready []).cfg .read (2 : Byte).toNat ⟨true, 0, [1, 2]⟩ := by decide

theorem witness_StrobeSendsItsByte :
    (ready [status 0x17]).ctl = .idleReady ∧ (ready [status 0x17]).env.answers = status 0x17 :: [] ∧
    Smooth (ready [status 0x17]).cfg .write 0 (status 0x17) := by decide

/-- The clauses that take in every successful answer: answers whose status bytes drain, on each path. -/
theorem witness_successfulAnswersThatDrain :
    (ready [status 0x30]).ctl = .idleReady ∧ (ready [status 0x30]).env.answers = status 0x30 :: [] ∧
    (status 0x30).ok = true ∧ (status 0x30).data = [] ∧ drains (ready []).cfg (status 0x30).status .write = true ∧
    (⟨true, 0x17, [9]⟩ : Answer).data = [9] ∧ drains (ready []).cfg 0x17 .read = true ∧
    (0xFB : Byte) = BitVec.ofNat 8 (0xC0 + (0x3B : Addr).toNat) ∧
    (⟨true, 0x17, [9, 8]⟩ : Answer).data.length = (2 : Byte).toNat ∧ (2 : Byte) ≠ 0 := by decide

theorem witness_AccessChecksRejectBeforeAnyExchange :
    (ready []).ctl = .idleReady ∧ 0x30 ≤ (0x30 : Addr).toNat ∧ (0x3D : Addr).toNat ≤ 0x3D ∧
    (0x2F : Addr).toNat < 0x30 ∧ 0x3D < (0x3E : Addr).toNat ∧ 8 < (9 : Byte).toNat := by decide

theorem witness_FailedExchangeEndsTheCommand :
    ((ready [failed]).ctl = .idleReady ∧ (ready [failed]).env.answers = failed :: [] ∧ failed.ok = false ∧
      failed.data = [] ∧ (⟨false, 0, [9]⟩ : Answer).data.length = 1 ∧
      (ready [⟨false, 0, [9]⟩]).env.answers = ⟨false, 0, [9]⟩ :: []) ∧
    (drains (ready []).cfg 0x30 .write = true ∧ drains (ready []).cfg 0x17 .read = true) ∧
    ((⟨false, 0, [9, 8]⟩ : Answer).data.length = (2 : Byte).toNat ∧ (2 : Byte) ≠ 0) ∧
    (0x2F : Addr).toNat < 0x30 ∧ 0x3D < (0x3E : Addr).toNat ∧ 1 ≤ (1 : Byte).toNat ∧ (8 : Byte).toNat ≤ 8 ∧
    ((ready []).dev.oscHz = some 26000000 ∧ (26000000 : Word32) ≠ 0 ∧ (ready []).cfg.wf = true) ∧
    1 = nearestSelect (devTableOf (ready []).cfg.devTable (26000000 : Word32).toNat) 1 ((799 : Word32).toNat : ℚ) ∧
    modReserved (modField (ready []).radio.modem) = false := by decide +kernel

theorem witness_FailedExchangeEndsTheCommand_word :
    1093745 = ⌊((min (max (433920000 : Word32).toNat 300000000) 928000000 : Nat) : ℚ) /
      (((26000000 : Word32).toNat : ℚ) / 65536) + 1 / 2⌋₊ := by
  have h : (26000000 : Word32).toNat = 26000000 := by decide
  have h' : (433920000 : Word32).toNat = 433920000 := by decide
  rw [h, h']
  symm
  rw [Nat.floor_eq_iff (by positivity)]
  norm_num

/-- The second clause: an exchange fails inside the drain that RDREG's status byte calls for. -/
theorem witness_FailedExchangeEndsTheCommand_drain : Instr.rdreg 0x31 ≠ .init ∧
    (match exec (.rdreg 0x31) (ready [⟨true, 0x17, [0x14]⟩, ⟨true, 0x12, [7]⟩, ⟨false, 0, [5, 6]⟩]) with
      | .next t => t.trace.any Event.failedExchange
      | _ => false) = true ∧ isCommand (.rdreg 0x31) = true := by decide +kernel

/-- Twelve successful answers, every one an overflow. -/
def overflows : State := ready (List.replicate 12 ⟨true, 0x3F, [0x02, 0x03]⟩)

theorem witness_CommandsCompleteWhileTheBusAnswers :
    overflows.ctl = .idleReady ∧ 12 ≤ overflows.env.answers.length ∧
    (∀ a ∈ overflows.env.answers, a.ok = true) ∧
    (overflows.dev.oscHz = some 26000000 ∧ encFreq (clampHz (0 : Word32).toNat) (26000000 : Word32).toNat < 2 ^ 22) ∧
    (overflows.dev.freqHz = some 433920000 ∧
      (overflows.cfg.paTab.get (band (433920000 : Word32).toNat)).length = paLen (band (433920000 : Word32).toNat)) ∧
    modReserved (modField overflows.radio.modem) = false ∧
    isStatus 0x2F = false ∧ isStatus 0x3E = false := by decide +kernel

/-! ## The status interpreter -/

theorem witness_InterpWithoutADrain :
    (ready []).ctl = .idleReady ∧ drains (ready []).cfg 0x17 .write = false ∧ drains (ready []).cfg 0x10 .read = false ∧
    drains (ready []).cfg 0x7F .read = false := by decide

theorem witness_InterpReadDrainsInReceiveMode :
    (ready []).ctl = .idleReady ∧ chipState (ready []).cfg 0x17 = .rx ∧ (0x17 : Byte).toNat % 16 ≠ 0 ∧
    (⟨true, 0x10, [7]⟩ : Answer).data = [7] ∧ 0 = drainCount (ready []).cfg 7 0x10 ∧
    (ready [⟨true, 0x10, [7]⟩]).env.answers = ⟨true, 0x10, [7]⟩ :: [] ∧
    2 = drainCount (ready []).cfg 7 0x12 ∧ (⟨true, 0, [5, 6]⟩ : Answer).data.length = 2 ∧
    (ready [⟨true, 0x12, [7]⟩, ⟨true, 0, [5, 6]⟩]).env.answers = ⟨true, 0x12, [7]⟩ :: ⟨true, 0, [5, 6]⟩ :: [] := by
  decide

theorem witness_InterpOverflowDrainsAndFlushes :
    (ready []).ctl = .idleReady ∧ chipState (ready []).cfg 0x30 = .rxFifoOverflow ∧ quiet.data = [] ∧
    ((ready [⟨true, 0x30, [2]⟩, quiet]).env.answers = ⟨true, 0x30, [2]⟩ :: quiet :: [] ∧
      0 = drainCount (ready []).cfg 2 0x30) ∧
    ((ready [⟨true, 0x3F, [2]⟩, ⟨true, 0, [5, 6]⟩, quiet]).env.answers =
        ⟨true, 0x3F, [2]⟩ :: ⟨true, 0, [5, 6]⟩ :: quiet :: [] ∧
      2 = drainCount (ready []).cfg 2 0x3F ∧ (⟨true, 0, [5, 6]⟩ : Answer).data.length = 2) := by decide

theorem witness_DrainCountReconcilesBothSources : Config.suggested.reconcile = .default := by decide

theorem witness_InterpreterIsTheFourStateMachine :
    drains (ready []).cfg 0x30 .write = true ∧ drains (ready []).cfg 0x11 .read = true := by decide

theorem witness_InterpreterIssuesAtMostThreeExchanges : drains (ready []).cfg 0x11 .write = false := by decide

theorem witness_StatusBitSevenHasNoEffect : (0x97 : Byte).toNat % 128 = (0x17 : Byte).toNat % 128 := by decide

/-! ## The controller -/

/-- The answers of `booting 0x14` before the two identification reads. -/
def bootAnswers : List Answer :=
  [quiet, quiet, quiet, quiet, quietByte 0x0C, quiet, quiet, quiet, quiet, quietByte 0x10, quiet, quiet, quiet]

theorem witness_InitBringsTheBlockUp :
    (booting 0x14).ctl = .uninitialized ∧ (booting 0x14).cfg.wf = true ∧ (booting 0x14).radio.oscHz ≠ 0 ∧
    (booting 0x14).env.levels = List.replicate 1 true ++ false :: (List.replicate 0 true ++ false :: []) ∧
    (booting 0x14).env.answers = bootAnswers ++ quietByte 0x00 :: quietByte 0x14 :: [] ∧
    bootAnswers.length = initExchanges (booting 0x14) ∧
    (∀ a ∈ bootAnswers ++ [quietByte 0x00, quietByte 0x14],
      a.ok = true ∧ drains (booting 0x14).cfg a.status .read = false) ∧
    433920000 = min (max (booting 0x14).radio.freqHz.toNat 300000000) 928000000 ∧
    1093745 = ⌊((433920000 : Nat) : ℚ) / (((booting 0x14).radio.oscHz.toNat : ℚ) / 65536) + 1 / 2⌋₊ ∧
    ((booting 0x14).cfg.paTab.get 1).length = 8 ∧
    ((booting 0x14).cfg.paTab.get 1)[paIndex 1 (booting 0x14).radio.pwrDbm.toInt]? = some 0x60 ∧
    modReserved (modField (booting 0x14).radio.modem) = false := by
  refine ⟨by decide, by decide, by decide, by decide, by decide, by decide, by decide, by decide, ?_, by decide,
    by decide, by decide⟩
  have h : (booting 0x14).radio.oscHz.toNat = 26000000 := by decide
  rw [h]
  symm
  rw [Nat.floor_eq_iff (by positivity)]
  norm_num

/-- `booting` with two fixed registers and on/off keying, which skips the deviation's answer. -/
def bootingOok (version : Byte) : State :=
  { booting version with
    cfg := { Config.suggested with fixedRegs := [(0x03, 0x47), (0x29, 0x59)] }
    radio := { (booting version).radio with modem := 0x43 }
    env := { emptyEnv with
      levels := [true, false, false]
      answers := [quiet] ++ [quiet, status 0x17] ++ [] ++ [quiet, quiet, quiet, quietByte 0x0C, quiet] ++ []
        ++ [quiet, quiet, quietByte 0x10, quiet] ++ [quiet, quiet] ++ [quietByte 0x00, quietByte version] ++ [] } }

/-- The clause that names the events, with the deviation and with the right version. -/
theorem witness_InitBringsTheBlockUp_events :
    (booting 0x14).env.answers = [quiet] ++ [] ++ [] ++ [quiet, quiet, quiet, quietByte 0x0C, quiet] ++ [quiet]
      ++ [quiet, quiet, quietByte 0x10, quiet] ++ [quiet, quiet] ++ [quietByte 0x00, quietByte 0x14] ++ [] ∧
    ([] : List Answer).length = (booting 0x14).cfg.fixedRegs.length ∧
    ([] : List Answer).length = (pktPreOf (booting 0x14).cfg (booting 0x14).radio).length ∧
    [quiet].length = (if isOok (booting 0x14).radio.modem then 0 else 1) ∧
    [quiet, quiet].length = (pktPostOf (booting 0x14).cfg (booting 0x14).radio).length ∧
    Smooth (booting 0x14).cfg .write 0 quiet ∧
    (∀ a ∈ [quietByte 0x0C, quietByte 0x10, quietByte 0x00, quietByte 0x14], Smooth (booting 0x14).cfg .read 1 a) ∧
    true = decide ((0x00 : Byte) = 0x00 ∧ (0x14 : Byte) = 0x14) := by decide

/-- The same clause without the deviation, with fixed registers and with a wrong version. -/
theorem witness_InitBringsTheBlockUp_mismatch :
    (bootingOok 0x15).ctl = .uninitialized ∧ (bootingOok 0x15).cfg.wf = true ∧ (bootingOok 0x15).radio.oscHz ≠ 0 ∧
    (bootingOok 0x15).env.answers = [quiet] ++ [quiet, status 0x17] ++ []
      ++ [quiet, quiet, quiet, quietByte 0x0C, quiet] ++ [] ++ [quiet, quiet, quietByte 0x10, quiet]
      ++ [quiet, quiet] ++ [quietByte 0x00, quietByte 0x15] ++ [] ∧
    [quiet, status 0x17].length = (bootingOok 0x15).cfg.fixedRegs.length ∧
    ([] : List Answer).length = (if isOok (bootingOok 0x15).radio.modem then 0 else 1) ∧
    (∀ a ∈ [quiet, status 0x17], Smooth (bootingOok 0x15).cfg .write 0 a) ∧
    (∀ a ∈ [quietByte 0x0C, quietByte 0x10, quietByte 0x00, quietByte 0x15],
      Smooth (bootingOok 0x15).cfg .read 1 a) ∧
    modReserved (modField (bootingOok 0x15).radio.modem) = false ∧
    false = decide ((0x00 : Byte) = 0x00 ∧ (0x15 : Byte) = 0x14) := by decide

theorem witness_InitRunsTheResetSequence :
    (booting 0x14).ctl = .uninitialized ∧ (booting 0x14).radio.oscHz ≠ 0 ∧
    (booting 0x14).env.levels = List.replicate 1 true ++ false :: (List.replicate 0 true ++ false :: []) ∧
    (booting 0x14).env.answers.head? = some quiet ∧ Smooth (booting 0x14).cfg .write 0 quiet ∧
    (match exec .init (booting 0x14) with | .next _ => true | _ => false) = true := by decide +kernel

theorem witness_InitIsAllOrFaulted : State.reset.ctl = .uninitialized := by decide

theorem witness_BeginrxEntersReceive :
    let s := ready [quiet, status 0x60, status 0x1F]
    s.ctl = .idleReady ∧ [quiet, status 0x60].length < 3 ∧
    s.env.answers = [quiet, status 0x60] ++ status 0x1F :: [] ∧
    (∀ x ∈ [quiet, status 0x60], Smooth s.cfg .write 0 x ∧ chipState s.cfg x.status ≠ .rx) ∧
    Smooth s.cfg .write 0 (status 0x1F) ∧ chipState s.cfg (status 0x1F).status = .rx := by decide

/-- Two strobes answered by an overflow, the second without bytes to read, then receive mode. -/
def overflowing : State :=
  ready [status 0x30, ⟨true, 0x0F, [2]⟩, ⟨true, 0x00, [5, 6]⟩, quiet, status 0xB5, ⟨true, 0x00, [2]⟩, quiet, status 0x10]

theorem witness_BeginrxEntersReceive_overflow :
    ∃ u v, overflowing.ctl = .idleReady ∧ strobedInVain [status 0x30, status 0xB5] overflowing.armedFor u ∧
      strobed (status 0x10) u v ∧ chipState overflowing.cfg 0x10 = .rx :=
  ⟨_, _, rfl, ⟨_, ⟨_, _, rfl, rfl, rfl, rfl⟩, by decide, _, ⟨_, _, rfl, rfl, rfl, rfl⟩, by decide, rfl⟩,
    ⟨_, _, rfl, rfl, rfl, rfl⟩, by decide⟩

theorem witness_BeginrxExhaustsItsTries_overflow :
    ∃ u v, strobedInVain [status 0x30, status 0xB5]
        (ready [status 0x30, ⟨true, 0x0F, [2]⟩, ⟨true, 0x00, [5, 6]⟩, quiet, status 0xB5, ⟨true, 0x00, [2]⟩, quiet,
          status 0x20]).armedFor u ∧
      strobed (status 0x20) u v ∧ chipState (ready []).cfg 0x20 ≠ .rx :=
  ⟨_, _, ⟨_, ⟨_, _, rfl, rfl, rfl, rfl⟩, by decide, _, ⟨_, _, rfl, rfl, rfl, rfl⟩, by decide, rfl⟩,
    ⟨_, _, rfl, rfl, rfl, rfl⟩, by decide⟩

theorem witness_BeginrxExhaustsItsTries :
    let s := ready [quiet, status 0x20, status 0x4A]
    s.ctl = .idleReady ∧ s.env.answers = quiet :: status 0x20 :: status 0x4A :: [] ∧
    (∀ x ∈ [quiet, status 0x20, status 0x4A], Smooth s.cfg .write 0 x ∧ chipState s.cfg x.status ≠ .rx) := by decide

theorem witness_BeginrxNeverFaults : (ready [failed]).ctl = .idleReady := by decide

theorem witness_UpdateTakesOrWaits :
    (ready []).ctl = .idleReady ∧ ({ ready [] with nq := 1 } : State).nq ≠ 0 ∧
    ((ready []).nq = 0 ∧ (ready []).irqArmed = false) ∧
    (let s : State := { ready [] with irqArmed := true, env := { emptyEnv with waits := [true] } }
     s.nq = 0 ∧ s.irqArmed = true ∧ s.env.waits = true :: []) ∧
    (let s : State := { ready [] with irqArmed := true }
     s.nq = 0 ∧ s.irqArmed = true ∧ s.env.waits = []) := by decide

/-! ## The bus header rows and the encoders -/

theorem witness_HeaderRowsAreOneExchange :
    (ready [quiet]).env.answers = quiet :: [] ∧ Smooth (ready []).cfg .write 0 quiet ∧
    (0x2F : Addr).toNat < 0x30 ∧ 0x3D < (0x3E : Addr).toNat ∧ Smooth (ready []).cfg .read 1 (quietByte 0x8C) ∧
    Smooth (ready []).cfg .read (2 : Byte).toNat ⟨true, 0, [5, 6]⟩ ∧
    0x30 ≤ (0x30 : Addr).toNat ∧ (0x3D : Addr).toNat ≤ 0x3D := by decide

theorem witness_FrequencyWordIsWithinHalfAStep : 0 < 26000000 ∧ encFreq 433920000 26000000 < 2 ^ 22 ∧
    (300000000 : Nat) ≤ 928000000 := by decide

theorem witness_FrequencyOverflowBounds : 0 < 14500001 ∧ 2 ^ 22 ≤ encFreq 928000000 14500001 ∧
    encFreq 928000000 14500002 < 2 ^ 22 ∧ 2 ^ 22 ≤ encFreq 300000000 4687500 ∧
    encFreq 300000000 4687501 < 2 ^ 22 := by decide

theorem witness_BandwidthIndexIsNearest :
    0 < 26000000 ∧ 0 = nearestSelect (bwTable 26000000) 0 (731250 : ℚ) ∧
    15 = nearestSelect (bwTable 26000000) 0 (0 : ℚ) ∧ (15 : Nat) < 16 := by decide +kernel

/-- A candidate function that meets the third clause's hypothesis. -/
theorem witness_BandwidthIndexIsNearest_cand :
    ∀ e m : Nat, e < 4 → m < 4 →
      (fun j => bwCand (j / 4) (j % 4) 26000000) (4 * e + m) = ((26000000 : Nat) : ℚ) / (8 * (4 + m) * 2 ^ e) := by
  intro e m _ hm
  have h1 : (4 * e + m) / 4 = e := by omega
  have h2 : (4 * e + m) % 4 = m := by omega
  simp only [h1, h2, bwCand]

/-- Both clauses of the selection rule: no entry below the target; one at the start; one with a predecessor, tied. -/
theorem witness_BandwidthIndexIsNearest_rule :
    nearestSelect [3, 2, 1] 0 1 = 2 ∧ nearestSelect [3, 2, 1] 0 4 = 0 ∧ nearestSelect [3, 1] 1 2 = 0 ∧
    nearestSelect [3, 1] 1 (3 / 2) = 1 := by decide +kernel

theorem witness_DeviationAnomaly :
    (203125 / 16384 : ℚ) < 799 ∧ (203125 / 16384 : ℚ) < 800 ∧ (0 : ℚ) ≤ 40625 / 196608 := by norm_num

theorem witness_StatusByte17IsReceiveSeven : Config.suggested.wf = true := by decide

end Sys2Proof.Tests
end

section
/-! SUPPORT. The step on presented words (60_exceptions.md R316; log 16). -/

namespace Sys2Proof.Machine

/-- The step on words that decode (R10). -/
theorem step_words {s : State} {b : Bits} {i : Instr} (hin : s.nextInput = some (.words b))
    (hd : decode b = .instr i) : step s = exec i s.takeInput := by
  simp only [step, hin, hd]

/-- What is presented next, and what is left of it. -/
theorem nextInput_of_inputs {s : State} {x : Input} {rest : List Input} (h : s.env.inputs = x :: rest) :
    s.nextInput = some x ∧ s.takeInput = { s with env := { s.env with inputs := rest } } := by
  simp [State.nextInput, State.takeInput, State.setEnv, h]

/-- Settles O7. -/
theorem stepRunsTheDecodedInstruction : Obligations.StepRunsTheDecodedInstruction := by
  intro s b rest i hin hd
  obtain ⟨hnext, htake⟩ := nextInput_of_inputs hin
  rw [step_words hnext hd, htake]

end Sys2Proof.Machine
end

section
/-! SUPPORT. The selection rule by its two clauses (R143), the default deviation table entry by entry (R161, R162), and
the anomaly of that table at 26 MHz (R166). -/

namespace Sys2Proof.Machine

/-! ### The selection rule -/

/-- No entry from the start of the scan on is below the target. -/
theorem firstBelow_eq_none {table : List ℚ} {start : Nat} {t : ℚ} (h : ∀ x ∈ table, t ≤ x) :
    firstBelow table start t = none := by
  simp only [firstBelow, Option.map_eq_none_iff, List.findIdx?_eq_none_iff, decide_eq_false_iff_not, not_lt]
  exact fun x hx => h x (List.mem_of_mem_drop hx)

/-- The entry at the start of the scan is below the target. -/
theorem firstBelow_eq_start {table : List ℚ} {start : Nat} {t x : ℚ} (hx : table[start]? = some x) (h : x < t) :
    firstBelow table start t = some start := by
  have hd : table.drop start = x :: table.drop (start + 1) := by
    obtain ⟨hs, rfl⟩ := List.getElem?_eq_some_iff.mp hx
    exact List.drop_eq_getElem_cons hs
  simp [firstBelow, hd, List.findIdx?_cons, h]

/-- With no entry below the target the last index is selected. -/
theorem nearestSelect_of_le {table : List ℚ} {start : Nat} {t : ℚ} (h : ∀ x ∈ table, t ≤ x) :
    nearestSelect table start t = table.length - 1 := by
  simp [nearestSelect, firstBelow_eq_none h]

/-- With the first scanned entry below the target, that entry or its predecessor is selected, the predecessor on a
tie. -/
theorem nearestSelect_of_start {table : List ℚ} {p : Nat} {t x y : ℚ} (hy : table[p]? = some y)
    (hx : table[p + 1]? = some x) (h : x < t) :
    nearestSelect table (p + 1) t = if |t - y| ≤ |t - x| then p else p + 1 := by
  simp [nearestSelect, firstBelow_eq_start hx h, List.getD_eq_getElem?_getD, hx, hy]

/-- For a target above the smaller of two entries, the larger is at least as near exactly from their midpoint on. -/
theorem abs_sub_le_abs_sub_iff_midpoint {t x y : ℚ} (hxy : x < y) (hxt : x < t) :
    |t - y| ≤ |t - x| ↔ (y + x) / 2 ≤ t := by
  rw [abs_of_pos (sub_pos.mpr hxt), abs_le]
  constructor
  · rintro ⟨h, -⟩; linarith
  · intro h; constructor <;> linarith

/-! ### The default deviation table -/

theorem devFormulaTable_length (osc : Nat) : (devFormulaTable osc).length = 56 := by simp [devFormulaTable]

/-- Entry `7 m + e` (R162). -/
theorem devFormulaTable_getElem? (osc : Nat) {m e : Nat} (hm : m < 8) (he : e < 7) :
    (devFormulaTable osc)[7 * m + e]? = some (devCand m e osc) := by
  have hk : 7 * m + e < 56 := by omega
  have hdiv : (7 * m + e) / 7 = m := by omega
  have hmod : (7 * m + e) % 7 = e := by omega
  simp [devFormulaTable, hk, hdiv, hmod]

/-- Every entry is a candidate of a row and a column. -/
theorem mem_devFormulaTable {osc : Nat} {x : ℚ} (h : x ∈ devFormulaTable osc) :
    ∃ m e, m < 8 ∧ e < 7 ∧ x = devCand m e osc := by
  simp only [devFormulaTable, List.mem_map, List.mem_range] at h
  obtain ⟨k, hk, rfl⟩ := h
  exact ⟨k / 7, k % 7, by omega, by omega, rfl⟩

/-- The last entry is the least. -/
theorem devCand_last_le (osc : Nat) {m e : Nat} (hm : m < 8) (he : e < 7) : devCand 7 6 osc ≤ devCand m e osc := by
  have hstep : (0 : ℚ) ≤ (osc : ℚ) / devDiv := by positivity
  have hlast : devCand 7 6 osc = (osc : ℚ) / devDiv / ((8 + 7) * 2 ^ 6) := by norm_num [devCand]
  rw [hlast]
  unfold devCand
  split
  · calc (osc : ℚ) / devDiv / ((8 + 7) * 2 ^ 6) ≤ (osc : ℚ) / devDiv := div_le_self hstep (by norm_num)
      _ ≤ (osc : ℚ) / devDiv * (8 + m) := le_mul_of_one_le_right hstep (by linarith [(m.cast_nonneg : (0 : ℚ) ≤ m)])
  · have hm7 : (m : ℚ) ≤ 7 := by exact_mod_cast Nat.le_of_lt_succ hm
    have he6 : (2 : ℚ) ^ e ≤ 2 ^ 6 := pow_le_pow_right₀ (by norm_num) (Nat.le_of_lt_succ he)
    have hrow : ((8 : ℚ) + m) * 2 ^ e ≤ (8 + 7) * 2 ^ 6 := by gcongr
    exact div_le_div_of_nonneg_left hstep (by positivity) hrow

/-- Settles O59: a target above entry 1 stops the scan at once, where entry 0 or 1 is taken; one not above the last
entry, the least of all, never stops it. -/
theorem deviationAnomaly : Obligations.DeviationAnomaly := by
  refine ⟨fun osc => ⟨devFormulaTable_length osc, fun m e hm he => ?_⟩, fun _ _ => rfl, rfl, fun t ht => ?_,
    fun t ht => ?_⟩
  · simpa [devTableOf, devCand, devDiv] using devFormulaTable_getElem? osc hm he
  · have h0 : devCand 0 0 26000000 = 203125 / 128 := by norm_num [devCand, devDiv]
    have h1 : devCand 0 1 26000000 = 203125 / 16384 := by norm_num [devCand, devDiv]
    have hy := h0 ▸ devFormulaTable_getElem? 26000000 (m := 0) (e := 0) (by omega) (by omega)
    have hx := h1 ▸ devFormulaTable_getElem? 26000000 (m := 0) (e := 1) (by omega) (by omega)
    have hmid : |t - 203125 / 128| ≤ |t - 203125 / 16384| ↔ (203125 / 128 + 203125 / 16384) / 2 ≤ t :=
      abs_sub_le_abs_sub_iff_midpoint (by norm_num) ht
    have hsel := nearestSelect_of_start (p := 0) hy hx ht
    simpa only [devTableOf, hmid, Nat.zero_add] using hsel
  · have hlast : devCand 7 6 26000000 = 40625 / 196608 := by norm_num [devCand, devDiv]
    have hall : ∀ x ∈ devFormulaTable 26000000, t ≤ x := by
      intro x hx
      obtain ⟨m, e, hm, he, rfl⟩ := mem_devFormulaTable hx
      exact (hlast ▸ ht).trans (devCand_last_le 26000000 hm he)
    exact (nearestSelect_of_le hall).trans (by rw [devFormulaTable_length])

end Sys2Proof.Machine
end

section
/-! SUPPORT. What a procedure answers, by cases of how it ends; and the procedures that only send: bus traffic and
nothing else, a bound on the answers they use, no failure while the bus answers, and at most one failed exchange, the
last (20_memory.md R78, 45_status_interpreter.md R226 to R233, 49_laws.md R394). -/

namespace Sys2Proof.Machine

variable {α β : Type}

/-! ### The two ends of a procedure -/

/-- Where the procedure goes on, `post` holds of its value and state; where it stops, `exits` of the stop and state. -/
def Run.Meets (r : Run α) (post : α → State → Prop) (exits : Stop → State → Prop) : Prop :=
  match r with
  | .go a u => post a u
  | .stop w u => exits w u

theorem Run.Meets.mono {r : Run α} {P P' : α → State → Prop} {E E' : Stop → State → Prop} (h : r.Meets P E)
    (hP : ∀ a u, P a u → P' a u) (hE : ∀ w u, E w u → E' w u) : r.Meets P' E' := by
  cases r with
  | go a u => exact hP a u h
  | stop w u => exact hE w u h

/-- Sequencing: the first part's exits are exits of the whole. -/
theorem Run.Meets.bind {r : Run α} {f : α → State → Run β} {P : α → State → Prop} {Q : β → State → Prop}
    {E : Stop → State → Prop} (h : r.Meets P E) (hf : ∀ a u, P a u → (f a u).Meets Q E) : (r.bind f).Meets Q E := by
  cases r with
  | go a u => exact hf a u h
  | stop w u => exact h

theorem Run.bind_assoc {γ : Type} (r : Run α) (f : α → State → Run β) (g : β → State → Run γ) :
    (r.bind f).bind g = r.bind fun a u => (f a u).bind g := by cases r <;> rfl

/-! ### The answers that are left -/

/-- The environment has decided at least `n` answers, and no decided answer is a failure. -/
def State.Answering (s : State) (n : Nat) : Prop := n ≤ s.env.answers.length ∧ ∀ a ∈ s.env.answers, a.ok = true

theorem State.Answering.mono {s : State} {m n : Nat} (h : s.Answering m) (hn : n ≤ m) : s.Answering n :=
  ⟨hn.trans h.1, h.2⟩

/-- Only bus traffic lies between the states, and it has used at most `k` of the answers. -/
structure Spends (k : Nat) (s u : State) : Prop where
  traffic : TrafficOnly s u
  answering : ∀ n, s.Answering (n + k) → u.Answering n

theorem Spends.refl (s : State) : Spends 0 s s := ⟨TrafficOnly.refl s, fun _ h => h⟩

theorem Spends.trans {j k : Nat} {s u v : State} (h : Spends k s u) (h' : Spends j u v) : Spends (k + j) s v :=
  ⟨h.traffic.trans h'.traffic, fun n hn => h'.answering n (h.answering _ (hn.mono (by omega)))⟩

theorem Spends.mono {j k : Nat} {s u : State} (h : Spends j s u) (hk : j ≤ k) : Spends k s u :=
  ⟨h.traffic, fun n hn => h.answering n (hn.mono (by omega))⟩

/-- The stop of a failed exchange: only bus traffic lies before it, and it cannot happen while `k` answers are left,
all successful. -/
structure BusFailed (k : Nat) (s : State) (w : Stop) (u : State) : Prop where
  stop : w = .fail .busFailure
  traffic : TrafficOnly s u
  notAnswering : ¬ s.Answering k

theorem BusFailed.after {j k : Nat} {s u v : State} {w : Stop} (h : Spends k s u) (h' : BusFailed j u w v) :
    BusFailed (k + j) s w v :=
  ⟨h'.stop, h.traffic.trans h'.traffic, fun hs => h'.notAnswering (h.answering j (hs.mono (by omega)))⟩

theorem BusFailed.mono {j k : Nat} {s u : State} {w : Stop} (h : BusFailed j s w u) (hk : j ≤ k) : BusFailed k s w u :=
  ⟨h.stop, h.traffic, fun hs => h.notAnswering (hs.mono hk)⟩

/-! ### The procedures that only send -/

/-- The procedure makes bus traffic and nothing else, uses at most `k` answers, and stops only by a failed exchange,
which is then its last. -/
structure Sends (k : Nat) (s : State) (r : Run α) : Prop where
  meets : r.Meets (fun _ u => Spends k s u) (BusFailed k s)
  accounts : Accounts s r

theorem Sends.stay (a : α) (s : State) : Sends 0 s (Run.go a s) := ⟨Spends.refl s, Accounts.stay a s⟩

/-- One more event that is no exchange. -/
theorem Sends.emit (a : α) {s : State} {e : Event} (ht : e.isTraffic = true) (hf : e.failedExchange = false) :
    Sends 0 s (Run.go a (s.emit e)) :=
  ⟨⟨TrafficOnly.emit ht, fun _ h => h⟩, Accounts.go [e] rfl (by simpa [Clean] using hf)⟩

theorem Sends.mono {j k : Nat} {s : State} {r : Run α} (h : Sends j s r) (hk : j ≤ k) : Sends k s r :=
  ⟨h.meets.mono (fun _ _ h => h.mono hk) (fun _ _ h => h.mono hk), h.accounts⟩

theorem Sends.bind {j k : Nat} {s : State} {r : Run α} {f : α → State → Run β} (h : Sends k s r)
    (hf : ∀ a u, Sends j u (f a u)) : Sends (k + j) s (r.bind f) := by
  refine ⟨(h.meets.mono (fun _ _ h => h) fun _ _ h => h.mono (Nat.le_add_right k j)).bind fun a u hu => ?_,
    h.accounts.bind fun a u _ => (hf a u).accounts⟩
  exact (hf a u).meets.mono (fun _ _ => hu.trans) (fun _ _ => BusFailed.after hu)

/-- While the bus answers, it goes on. -/
theorem Sends.goes_on {k : Nat} {s : State} {r : Run α} (h : Sends k s r) (hs : s.Answering k) :
    ∃ a u, r = .go a u ∧ TrafficOnly s u := by
  cases r with
  | go a u => exact ⟨a, u, rfl, h.meets.traffic⟩
  | stop w u => exact absurd hs h.meets.notAnswering

/-- The next answer is a decided success while the bus answers. -/
theorem exchange_ok {k : BusKind} {header : Byte} {sent : List Byte} {n : Nat} {s : State} (h : s.Answering 1) :
    (exchange k header sent n s).1.ok = true := by
  obtain ⟨hlen, hok⟩ := h
  obtain ⟨a, rest, ha⟩ := List.exists_cons_of_length_pos hlen
  exact (nextAnswer_ok ha).trans (hok a (by simp [ha]))

theorem exchange_spends (k : BusKind) (header : Byte) (sent : List Byte) (n : Nat) (s : State) :
    Spends 1 s (exchange k header sent n s).2 := by
  refine ⟨exchange_traffic k header sent n s, fun m h => ⟨?_, fun a ha => h.2 a (List.mem_of_mem_tail ha)⟩⟩
  have hlen := h.1
  simp only [exchange, emit_env, setEnv_env, Env.afterAnswer, List.length_tail]
  omega

/-- An exchange, its failure, and what follows its success. -/
theorem exchange_sends {j : Nat} {k : BusKind} {header : Byte} {sent : List Byte} {n : Nat} {s : State} {ok : Run α}
    (h : Sends j (exchange k header sent n s).2 ok) :
    Sends (1 + j) s (if (exchange k header sent n s).1.ok then ok
      else .stop (.fail .busFailure) (exchange k header sent n s).2) := by
  have hx := exchange_spends k header sent n s
  refine ⟨?_, accounts_exchange fun _ => h.accounts⟩
  split
  · exact h.meets.mono (fun _ _ => hx.trans) (fun _ _ => BusFailed.after hx)
  · rename_i hfail
    exact ⟨rfl, hx.traffic, fun hs => hfail (exchange_ok (hs.mono (by omega)))⟩

theorem drain_sends (s : State) : Sends 2 s (drain s) := by
  unfold drain
  refine exchange_sends (j := 1) ?_
  dsimp only
  split
  · exact exchange_sends (j := 0) (.emit () rfl rfl)
  · exact (Sends.stay () _).mono (by omega)

theorem flush_sends (s : State) : Sends 1 s (flush s) := exchange_sends (j := 0) (.stay () _)

theorem interp_sends (status : Byte) (trig : Trigger) (s : State) : Sends 3 s (interp status trig s) := by
  unfold interp
  split
  · exact (drain_sends s).bind (j := 1) fun _ u => (flush_sends u).bind (j := 0) fun _ v => .stay _ v
  · exact (Sends.stay _ s).mono (by omega)
  · split
    · exact ((drain_sends s).bind fun _ u => .stay _ u).mono (by omega)
    · exact (Sends.stay _ s).mono (by omega)
  · exact (Sends.stay _ s).mono (by omega)
  all_goals exact (Sends.emit _ rfl rfl).mono (by omega)

/-- An interpreted primitive uses at most four answers: its own, the drain's two and the flush's. -/
theorem interpreted_sends (trig : Trigger) (k : BusKind) (header : Byte) (sent : List Byte) (n : Nat) (s : State) :
    Sends 4 s (interpreted trig (exchange k header sent n s)) :=
  exchange_sends (j := 3) ((interp_sends _ _ _).bind (j := 0) fun _ u => .stay _ u)

theorem busStrobe_sends (c : Byte) (s : State) : Sends 4 s (busStrobe c s) := interpreted_sends _ _ _ _ _ _
theorem busWrite1_sends (a : Addr) (v : Byte) (s : State) : Sends 4 s (busWrite1 a v s) :=
  interpreted_sends _ _ _ _ _ _
theorem busRead1_sends (a : Addr) (s : State) : Sends 4 s (busRead1 a s) := interpreted_sends _ _ _ _ _ _
theorem busWriteN_sends (a : Addr) (p : List Byte) (s : State) : Sends 4 s (busWriteN a p s) :=
  interpreted_sends _ _ _ _ _ _
theorem busReadN_sends (a : Addr) (n : Nat) (s : State) : Sends 4 s (busReadN a n s) := interpreted_sends _ _ _ _ _ _

end Sys2Proof.Machine
end

section
/-! SUPPORT. The pseudocode of each command by its branches: the checks that stop it before any exchange, and what it
sends past them (40_frequency.md R120 to 44_modulation.md R206, 47_bus_access.md R281 to R286). -/

namespace Sys2Proof.Machine

/-! ### Access checks -/

theorem writeCheck_eq_none {a : Addr} (h : isStatus a = false) : writeCheck a = none := by simp [writeCheck, h]

theorem burstCheck_eq_none {a : Addr} {n : Byte} {max : Nat} (h : isStatus a = false) (h1 : 1 ≤ n.toNat)
    (h2 : n.toNat ≤ max) : burstCheck a n max = none := by
  have h0 : n ≠ 0#8 := by rintro rfl; simp at h1
  simp [burstCheck, h, h0, h2]

/-- A check never answers `BusFailure`. -/
theorem writeCheck_ne_busFailure {a : Addr} {e : LocalError} (h : writeCheck a = some e) : e ≠ .busFailure := by
  unfold writeCheck at h
  split at h <;> cases h
  decide

theorem burstCheck_ne_busFailure {a : Addr} {n : Byte} {max : Nat} {e : LocalError} (h : burstCheck a n max = some e) :
    e ≠ .busFailure := by
  unfold burstCheck at h
  split at h
  · cases h; decide
  · split at h <;> cases h
    decide

theorem csrWriteCheck_ne_busFailure {i : CsrIdx} {v : Word32} {e : LocalError} (h : csrWriteCheck i v = some e) :
    e ≠ .busFailure := by
  unfold csrWriteCheck at h
  split at h
  · cases h; decide
  · split at h <;> cases h
    decide

/-! ### The bus access commands -/

theorem wrregBody_rejected {a : Addr} {e : LocalError} (h : writeCheck a = some e) (v : Byte) (s : State) :
    wrregBody a v s = .stop (.fail e) s := by simp only [wrregBody, h]

theorem wrregBody_admitted {a : Addr} (h : writeCheck a = none) (v : Byte) (s : State) :
    wrregBody a v s = (busWrite1 a v s).bind fun r u => .go (r.status.setWidth 32) u := by simp only [wrregBody, h]

theorem wrburstBody_rejected {a : Addr} {n : Byte} {e : LocalError} (h : burstCheck a n 8 = some e) (s : State) :
    wrburstBody a n s = .stop (.fail e) s := by simp only [wrburstBody, h]

theorem wrburstBody_admitted {a : Addr} {n : Byte} (h : burstCheck a n 8 = none) (s : State) :
    wrburstBody a n s = (busWriteN a (s.dev.paBuf.toList.take n.toNat) s).bind fun r u =>
      .go ((r.status.setWidth 32 <<< 8) ||| n.setWidth 32) u := by simp only [wrburstBody, h]

theorem rdburstBody_rejected {a : Addr} {n : Byte} {e : LocalError} (h : burstCheck a n 255 = some e) (s : State) :
    rdburstBody a n s = .stop (.fail e) s := by simp only [rdburstBody, h]

theorem rdburstBody_admitted {a : Addr} {n : Byte} (h : burstCheck a n 255 = none) (s : State) :
    rdburstBody a n s = (busReadN a n.toNat s).bind fun r u =>
      .go ((r.status.setWidth 32 <<< 8) ||| n.setWidth 32) (u.emit (.data .rdburst r.data)) := by
  simp only [rdburstBody, h]

theorem wrregBody_sends {a : Addr} (h : writeCheck a = none) (v : Byte) (s : State) : Sends 4 s (wrregBody a v s) := by
  rw [wrregBody_admitted h]
  exact (busWrite1_sends a v s).bind (j := 0) fun _ u => .stay _ u

theorem wrburstBody_sends {a : Addr} {n : Byte} (h : burstCheck a n 8 = none) (s : State) :
    Sends 4 s (wrburstBody a n s) := by
  rw [wrburstBody_admitted h]
  exact (busWriteN_sends _ _ s).bind (j := 0) fun _ u => .stay _ u

theorem rdburstBody_sends {a : Addr} {n : Byte} (h : burstCheck a n 255 = none) (s : State) :
    Sends 4 s (rdburstBody a n s) := by
  rw [rdburstBody_admitted h]
  exact (busReadN_sends _ _ s).bind (j := 0) fun _ u => .emit _ rfl rfl

theorem rdregBody_sends (a : Addr) (s : State) : Sends 4 s (rdregBody a s) :=
  (busRead1_sends a s).bind (j := 0) fun _ u => .stay _ u

theorem strobeBody_sends (c : Byte) (s : State) : Sends 4 s (strobeBody c s) :=
  (busStrobe_sends c s).bind (j := 0) fun _ u => .stay _ u

theorem interpBody_sends (status : Byte) (trig : Trigger) (s : State) : Sends 3 s (interpBody status trig s) :=
  (interp_sends status trig s).bind (j := 0) fun _ u => .stay _ u

/-! ### The SET commands -/

theorem freqOverflow_eq_false_iff {w : Nat} : freqOverflow w = false ↔ w < 2 ^ 22 := by simp [freqOverflow]

theorem oscNat_eq {s : State} {osc : Word32} (h : s.dev.oscHz = some osc) : s.oscNat = osc.toNat := by
  simp only [State.oscNat, h]

/-- SETFREQ's three single writes, FREQ2 first (R125). -/
def freqWrites (w : Nat) (s : State) : Run Unit :=
  (busWrite1 s.cfg.reg.freq2 (freqByte2 w) s).bind fun _ s1 =>
  (busWrite1 s.cfg.reg.freq1 (freqByte1 w) s1).bind fun _ s2 =>
  (busWrite1 s.cfg.reg.freq0 (freqByte0 w) s2).bind fun _ s3 => .go () s3

/-- A word that does not fit stops SETFREQ before any exchange (R126). -/
theorem setfreqBody_overflow {hz : Word32} {s : State} (h : freqOverflow (encFreq (clampHz hz.toNat) s.oscNat) = true) :
    setfreqBody hz s = .stop (.fatal .freqWordOverflow) s := if_pos h

/-- A word that fits is written, and then the clamped carrier is recorded (R124). -/
theorem setfreqBody_fits {hz : Word32} {s : State} (h : freqOverflow (encFreq (clampHz hz.toNat) s.oscNat) = false) :
    setfreqBody hz s = (freqWrites (encFreq (clampHz hz.toNat) s.oscNat) s).bind fun _ u =>
      .go (BitVec.ofNat 32 (encFreq (clampHz hz.toNat) s.oscNat)) (u.setFreq (BitVec.ofNat 32 (clampHz hz.toNat))) := by
  simp only [setfreqBody, freqWrites, h, Bool.false_eq_true, if_false, Run.bind_assoc, Run.bind_go]

theorem freqWrites_sends (w : Nat) (s : State) : Sends 12 s (freqWrites w s) :=
  (busWrite1_sends _ _ s).bind (j := 8) fun _ u =>
  (busWrite1_sends _ _ u).bind (j := 4) fun _ v =>
  (busWrite1_sends _ _ v).bind (j := 0) fun _ x => .stay () x

theorem setbwBody_sends (hz : Word32) (s : State) : Sends 8 s (setbwBody hz s) :=
  (busRead1_sends _ s).bind (j := 4) fun _ u => (busWrite1_sends _ _ u).bind (j := 0) fun _ v => .stay _ v

theorem setdevBody_sends (hz : Word32) (s : State) : Sends 4 s (setdevBody hz s) :=
  (busWrite1_sends _ _ s).bind (j := 0) fun _ u => .stay _ u

/-- Without a carrier SETPWR stops (R181). -/
theorem setpwrBody_unset {dbm : Byte} {s : State} (h : s.dev.freqHz = none) :
    setpwrBody dbm s = .stop (.fatal .carrierUnset) s := by simp only [setpwrBody, h]

/-- The carrier's band has a table of the right length (R182, R184). -/
def paTableFits (c : Config) (f : Word32) : Prop := (c.paTab.get (band f.toNat)).length = paLen (band f.toNat)

/-- A table of the wrong length stops SETPWR before it stages anything (R184). -/
theorem setpwrBody_badTable {dbm : Byte} {s : State} {f : Word32} (h : s.dev.freqHz = some f)
    (hl : ¬ paTableFits s.cfg f) : setpwrBody dbm s = .stop (.fatal .paTableLength) s := by
  simp only [setpwrBody, h]
  exact if_pos hl

/-- SETPWR's table byte (R183). -/
def paByte (c : Config) (f : Word32) (dbm : Byte) : Byte :=
  (c.paTab.get (band f.toNat)).getD (paIndex (band f.toNat) dbm.toInt) 0

/-- The state in which SETPWR sends its burst (R185). -/
def State.staged (s : State) (f : Word32) (dbm : Byte) : State :=
  s.stagePa (band f.toNat) (paSlots s.radio.modem (paByte s.cfg f dbm)).1 (paSlots s.radio.modem (paByte s.cfg f dbm)).2

/-- With a carrier and its table, SETPWR stages its slots and sends one burst. -/
theorem setpwrBody_staged {dbm : Byte} {s : State} {f : Word32} (h : s.dev.freqHz = some f)
    (hl : paTableFits s.cfg f) :
    setpwrBody dbm s = (busWriteN s.cfg.reg.patable (s.staged f dbm).dev.paBuf.toList (s.staged f dbm)).bind fun _ u =>
      .go ((BitVec.ofNat 32 (band f.toNat).val <<< 8) ||| (paByte s.cfg f dbm).setWidth 32) u := by
  simp only [setpwrBody, h]
  exact if_neg (not_not_intro hl)

theorem setpwrBody_sends {dbm : Byte} {s : State} {f : Word32} (h : s.dev.freqHz = some f)
    (hl : paTableFits s.cfg f) : Sends 4 (s.staged f dbm) (setpwrBody dbm s) := by
  rw [setpwrBody_staged h hl]
  exact (busWriteN_sends _ _ _).bind (j := 0) fun _ u => .stay _ u

/-- A reserved modulation stops SETMOD before any exchange (R202). -/
theorem setmodBody_reserved {s : State} (h : modReserved (modField s.radio.modem) = true) :
    setmodBody s = .stop (.fatal .invalidModulation) s := if_pos h

theorem setmodBody_sends {s : State} (h : modReserved (modField s.radio.modem) = false) :
    Sends 12 s (setmodBody s) := by
  simp only [setmodBody, h, Bool.false_eq_true, if_false]
  exact (busWrite1_sends _ _ s).bind (j := 8) fun _ u =>
    (busRead1_sends _ u).bind (j := 4) fun _ v => (busWrite1_sends _ _ v).bind (j := 0) fun _ x => .stay _ x

end Sys2Proof.Machine
end

section
/-! SUPPORT. Commands while the bus answers (49_laws.md R394; 60_exceptions.md R311). -/

namespace Sys2Proof.Machine

/-- The SET commands, the bus access commands, INTERP and UPDATE are admitted in IdleReady and in Receiving (R316). -/
theorem admits_radio {c : CtlState} (h : c = .idleReady ∨ c = .receiving) : admits .radio c = true := by
  rcases h with rfl | rfl <;> rfl

/-- The command completes with `ok` = 1, leaves the controller, the fault latch and the configuration registers as they
were, and leaves the given DeviceState. -/
def Succeeds (s : State) (d : DevState) (o : Host.Outcome State Fault Refusal) : Prop :=
  ∃ t, o = .next t ∧ t.ok = true ∧ t.ctl = s.ctl ∧ t.fault = s.fault ∧ t.radio = s.radio ∧ t.dev = d

/-- A procedure that only sends completes its command while the bus answers. -/
theorem Sends.succeeds {k : Nat} {s : State} {body : State → Run Word32} (h : Sends k s (body s))
    (hctl : s.ctl = .idleReady ∨ s.ctl = .receiving) (hs : s.Answering k) :
    Succeeds s s.dev (runCmd .radio body s) := by
  obtain ⟨v, u, hgo, hu⟩ := h.goes_on hs
  rw [runCmd_admitted (admits_radio hctl), hgo, finish_go]
  exact ⟨_, rfl, rfl, hu.ctl, hu.fault, hu.radio, hu.dev⟩

/-- SETFREQ records the clamped carrier (R124). -/
theorem execSetfreq_succeeds {hz : Word32} {s : State} (hctl : s.ctl = .idleReady ∨ s.ctl = .receiving)
    (hs : s.Answering 12) (hw : freqOverflow (encFreq (clampHz hz.toNat) s.oscNat) = false) :
    Succeeds s { s.dev with freqHz := some (BitVec.ofNat 32 (clampHz hz.toNat)) } (execSetfreq hz s) := by
  obtain ⟨_, u, hgo, hu⟩ := (freqWrites_sends (encFreq (clampHz hz.toNat) s.oscNat) s).goes_on hs
  rw [execSetfreq, runCmd_admitted (admits_radio hctl), setfreqBody_fits hw, hgo, Run.bind_go, finish_go]
  exact ⟨_, rfl, rfl, hu.ctl, hu.fault, hu.radio, by rw [complete_dev, setFreq_dev, hu.dev]⟩

/-- SETPWR leaves what it has staged (R185). -/
theorem execSetpwr_succeeds {dbm : Byte} {s : State} {f : Word32} (hctl : s.ctl = .idleReady ∨ s.ctl = .receiving)
    (hs : s.Answering 4) (hf : s.dev.freqHz = some f) (hl : paTableFits s.cfg f) :
    Succeeds s (s.staged f dbm).dev (execSetpwr dbm s) := by
  obtain ⟨v, u, hgo, hu⟩ := (setpwrBody_sends (dbm := dbm) hf hl).goes_on hs
  rw [execSetpwr, runCmd_admitted (admits_radio hctl), hgo, finish_go]
  exact ⟨_, rfl, rfl, hu.ctl, hu.fault, hu.radio, hu.dev⟩

/-- On/off keying is code 3 of the low three bits (R201). -/
theorem isOok_iff (modem : Byte) : isOok modem = true ↔ modem.toNat % 8 = 3 := by
  rw [isOok, beq_iff_eq, modField, modOok, ← BitVec.toNat_inj, slice_toNat]
  simp

/-- The staged slots, written out as DeviceState has them (R185). -/
theorem staged_dev {s : State} {f : Word32} {dbm v : Byte}
    (hv : (s.cfg.paTab.get (band f.toNat))[paIndex (band f.toNat) dbm.toInt]? = some v) :
    (s.staged f dbm).dev = s.dev.staged (band f.toNat) s.radio.modem v := by
  have hb : paByte s.cfg f dbm = v := by simp [paByte, List.getD_eq_getElem?_getD, hv]
  by_cases hook : isOok s.radio.modem = true
  · simp [State.staged, DevState.staged, hb, paSlots, hook, (isOok_iff _).mp hook]
  · simp [State.staged, DevState.staged, hb, paSlots, hook, mt (isOok_iff _).mpr hook]

/-- Settles O40: a command uses at most the twelve answers of three interpreted primitives. -/
theorem commandsCompleteWhileTheBusAnswers : Obligations.CommandsCompleteWhileTheBusAnswers := by
  intro s i hctl hlen hok hpre
  have h12 : s.Answering 12 := ⟨hlen, hok⟩
  have h4 : s.Answering 4 := h12.mono (by omega)
  cases i with
  | setfreq hz =>
    obtain ⟨osc, hosc, -, hw⟩ := hpre
    exact execSetfreq_succeeds hctl h12 (freqOverflow_eq_false_iff.mpr (oscNat_eq hosc ▸ hw))
  | setbw hz => exact (setbwBody_sends hz s).succeeds hctl (h12.mono (by omega))
  | setdev hz => exact (setdevBody_sends hz s).succeeds hctl h4
  | setpwr dbm =>
    obtain ⟨f, hf, hl⟩ := hpre
    obtain ⟨t, ht, hok, hc, hfault, hradio, hdev⟩ := execSetpwr_succeeds (dbm := dbm) hctl h4 hf hl
    refine ⟨t, ht, hok, hc, hfault, hradio, fun f' b v hf' hb hv => ?_⟩
    cases hf.symm.trans hf'
    cases hb.trans (rfl : _ = band f.toNat)
    exact hdev.trans (staged_dev hv)
  | setmod => exact (setmodBody_sends hpre).succeeds hctl h12
  | wrreg a v => exact (wrregBody_sends (writeCheck_eq_none hpre) v s).succeeds hctl h4
  | rdreg a => exact (rdregBody_sends a s).succeeds hctl h4
  | wrburst a n =>
    obtain ⟨ha, h1, h8⟩ := hpre
    exact (wrburstBody_sends (burstCheck_eq_none ha h1 h8) s).succeeds hctl h4
  | rdburst a n =>
    obtain ⟨ha, h1⟩ := hpre
    have h255 : n.toNat ≤ 255 := Nat.le_of_lt_succ n.isLt
    exact (rdburstBody_sends (burstCheck_eq_none ha h1 h255) s).succeeds hctl h4
  | interpW status => exact (interpBody_sends status .write s).succeeds hctl (h12.mono (by omega))
  | interpR status => exact (interpBody_sends status .read s).succeeds hctl (h12.mono (by omega))
  | strobe c => exact (strobeBody_sends c s).succeeds hctl h4
  | _ => exact hpre.elim

end Sys2Proof.Machine
end

section
/-! SUPPORT. How a command ends by a failed exchange (20_memory.md R78, 45_status_interpreter.md R233,
60_exceptions.md R312): exactly, where the first exchange fails; and for every command, wherever one fails. -/

namespace Sys2Proof.Machine

/-! ### The encoded operands as numbers -/

/-- The integer form of the frequency word is the quotient rounded once, an exact half up (R122). -/
theorem encFreq_eq_floor (fc : Nat) {osc : Nat} (h : 0 < osc) :
    encFreq fc osc = ⌊(fc : ℚ) / ((osc : ℚ) / 65536) + 1 / 2⌋₊ := by
  have hq : (0 : ℚ) < osc := by exact_mod_cast h
  have hform : (fc : ℚ) / ((osc : ℚ) / 65536) + 1 / 2 =
      ((2 * fc * freqDiv + osc : Nat) : ℚ) / ((2 * osc : Nat) : ℚ) := by
    push_cast [freqDiv]
    field_simp
  rw [hform, Nat.floor_div_eq_div, encFreq, if_neg h.ne']

/-- `FREQ2` as a number (R123). -/
theorem freqByte2_eq (w : Nat) : freqByte2 w = BitVec.ofNat 8 (w / 2 ^ 16) := by
  apply BitVec.eq_of_toNat_eq
  rw [freqByte2, slice_toNat, BitVec.toNat_ofNat, BitVec.toNat_ofNat]
  omega

/-- `DevByte(k)` as a number, for the indices of the table (R165). -/
theorem devByte_eq {k : Nat} (h : k < 56) : devByte k = BitVec.ofNat 8 (16 * (k % 7) + k / 7) := by
  have hall : ∀ j : Fin 56, devByte j = BitVec.ofNat 8 (16 * (j % 7) + j / 7) := by decide
  exact hall ⟨k, h⟩

/-- The selection rule answers an index of its table. -/
theorem nearestSelect_lt {table : List ℚ} (h : table ≠ []) (start : Nat) (t : ℚ) :
    nearestSelect table start t < table.length := by
  have hpos := List.length_pos_of_ne_nil h
  unfold nearestSelect
  split
  · omega
  · exact hpos
  · rename_i p hp
    simp only [firstBelow, Option.map_eq_some_iff, List.findIdx?_eq_some_iff_getElem, List.length_drop] at hp
    obtain ⟨i, ⟨hi, -⟩, hip⟩ := hp
    split <;> omega

/-- The deviation table of a well-formed configuration has 56 entries (R162, R167). -/
theorem devTableOf_length {d : DevTable} (h : d.wf = true) (osc : Nat) : (devTableOf d osc).length = 56 := by
  cases d with
  | formula => exact devFormulaTable_length osc
  | entries t =>
    simp only [DevTable.wf, Bool.and_eq_true, decide_eq_true_eq] at h
    exact h.1
  | external => simp [devTableOf]

theorem encDev_lt {c : Config} (h : c.wf = true) (t osc : Nat) : encDev c.devTable t osc < 56 := by
  have hwf : c.devTable.wf = true := by
    simp only [Config.wf, Bool.and_eq_true] at h
    exact h.2
  have hlen := devTableOf_length hwf osc
  rw [← hlen]
  exact nearestSelect_lt (List.ne_nil_of_length_pos (by omega)) _ _

/-! ### A failed first exchange -/

theorem isStatus_eq_false {a : Addr} (h : a.toNat < 0x30 ∨ 0x3D < a.toNat) : isStatus a = false := by
  simp only [isStatus, decide_eq_false_iff_not]
  omega

section FirstExchangeFails

variable {s : State} {a : Answer} {rest : List Answer}

/-- The state after a failed exchange, its command not ended yet. -/
theorem exchange_failed {α : Type} {k : BusKind} {header : Byte} {sent : List Byte} {n : Nat} {ok : Run α}
    (h : s.env.answers = a :: rest) (hf : a.ok = false) (hn : a.data.length = n) :
    (if (exchange k header sent n s).1.ok then ok else .stop (.fail .busFailure) (exchange k header sent n s).2) =
      .stop (.fail .busFailure) (s.exchanged k header sent a rest) := by
  have ha := nextAnswer_decided (n := n) h hn
  simp [exchange, ha, hf, afterAnswer_decided h, State.emit, State.setEnv, State.exchanged]

/-- A command that comes to its first exchange in state `u`, where it fails, ends with `BusFailure` and that exchange
as its only one; nothing is interpreted. -/
theorem runCmd_failed {g : CmdGroup} {body : State → Run Word32} {u : State} {trig : Trigger} {k : BusKind}
    {header : Byte} {sent : List Byte} {n : Nat} {f : Answer → State → Run Word32} (hadm : admits g s.ctl = true)
    (hbody : body s = (interpreted trig (exchange k header sent n u)).bind f) (h : u.env.answers = a :: rest)
    (hf : a.ok = false) (hn : a.data.length = n) :
    runCmd g body s = .next ((u.exchanged k header sent a rest).complete false 0x02) := by
  rw [runCmd_admitted hadm, hbody, interpreted_failed h hf hn]
  rfl

theorem drain_failed (h : s.env.answers = a :: rest) (hf : a.ok = false) (hn : a.data.length = 1) :
    drain s = .stop (.fail .busFailure) (s.exchanged .read1 (hdr 1 0 s.cfg.reg.rxbytes) [] a rest) :=
  exchange_failed h hf hn

/-- On a status byte that drains, a drain that stops stops the interpreter. -/
theorem interp_of_drain_stop {status : Byte} {trig : Trigger} {w : Stop} {u : State}
    (hd : drains s.cfg status trig = true) (h : drain s = .stop w u) : interp status trig s = .stop w u := by
  unfold drains at hd
  unfold interp
  split <;> rename_i hs <;> simp only [hs, Bool.false_eq_true] at hd
  · rw [h]; rfl
  · have hcond : statusCount status ≠ 0 ∧ trig = .read := by simpa using hd
    rw [if_pos hcond, h]; rfl

/-- INTERP on a status byte that drains, the drain's count read failing. -/
theorem runCmd_interp_failed {status : Byte} {trig : Trigger} (hctl : s.ctl = .idleReady ∨ s.ctl = .receiving)
    (hd : drains s.cfg status trig = true) (h : s.env.answers = a :: rest) (hf : a.ok = false)
    (hn : a.data.length = 1) :
    runCmd .radio (interpBody status trig) s =
      .next ((s.exchanged .read1 (hdr 1 0 s.cfg.reg.rxbytes) [] a rest).complete false 0x02) := by
  rw [runCmd_admitted (admits_radio hctl), interpBody, interp_of_drain_stop hd (drain_failed h hf hn)]
  rfl

/-- SETFREQ with a word that fits, its first write failing. -/
theorem execSetfreq_failed {hz : Word32} (hctl : s.ctl = .idleReady ∨ s.ctl = .receiving)
    (hw : freqOverflow (encFreq (clampHz hz.toNat) s.oscNat) = false) (h : s.env.answers = a :: rest)
    (hf : a.ok = false) (hn : a.data.length = 0) :
    execSetfreq hz s = .next ((s.exchanged .write1 (hdr 0 0 s.cfg.reg.freq2)
      [freqByte2 (encFreq (clampHz hz.toNat) s.oscNat)] a rest).complete false 0x02) :=
  runCmd_failed (admits_radio hctl) ((setfreqBody_fits hw).trans (Run.bind_assoc _ _ _)) h hf hn

/-- The same with the word as the quotient of R122. -/
theorem execSetfreq_failed_word {hz osc : Word32} {w : Nat} (hctl : s.ctl = .idleReady ∨ s.ctl = .receiving)
    (hosc : s.dev.oscHz = some osc) (hosc0 : osc ≠ 0)
    (hw : w = ⌊((clampHz hz.toNat : Nat) : ℚ) / ((osc.toNat : ℚ) / 65536) + 1 / 2⌋₊) (hlt : w < 2 ^ 22)
    (h : s.env.answers = a :: rest) (hf : a.ok = false) (hn : a.data.length = 0) :
    execSetfreq hz s = .next ((s.exchanged .write1 (hdr 0 0 s.cfg.reg.freq2) [BitVec.ofNat 8 (w / 2 ^ 16)] a
      rest).complete false 0x02) := by
  have hword : encFreq (clampHz hz.toNat) s.oscNat = w := by
    rw [hw, oscNat_eq hosc, encFreq_eq_floor _ (by bv_omega)]
  have hfailed := execSetfreq_failed hctl (freqOverflow_eq_false_iff.mpr (hword ▸ hlt)) h hf hn
  rwa [hword, freqByte2_eq] at hfailed

/-- SETDEV, its write failing. -/
theorem execSetdev_failed_index {hz osc : Word32} (hctl : s.ctl = .idleReady ∨ s.ctl = .receiving)
    (hosc : s.dev.oscHz = some osc) (hwf : s.cfg.wf = true) (h : s.env.answers = a :: rest) (hf : a.ok = false)
    (hn : a.data.length = 0) :
    execSetdev hz s = .next ((s.exchanged .write1 (hdr 0 0 s.cfg.reg.deviatn)
      [BitVec.ofNat 8 (16 * (encDev s.cfg.devTable hz.toNat osc.toNat % 7) +
        encDev s.cfg.devTable hz.toNat osc.toNat / 7)] a rest).complete false 0x02) := by
  rw [← devByte_eq (encDev_lt hwf _ _), ← oscNat_eq hosc]
  exact runCmd_failed (admits_radio hctl) rfl h hf hn

/-- BEGINRX, armed, its first strobe failing. -/
theorem execBeginrx_failed (hctl : s.ctl = .idleReady) (h : s.env.answers = a :: rest) (hf : a.ok = false)
    (hn : a.data.length = 0) :
    execBeginrx s = .next ((State.exchanged
      (((s.emit (.gpio (.armInterrupt s.radio.edge))).emit (.gpio .installHandler)).arm s.radio.edge)
      .strobe s.cfg.stb.srx [] a rest).complete false 0x02) :=
  runCmd_failed (by rw [hctl]; rfl) rfl h hf hn

end FirstExchangeFails

/-! ### A failed exchange anywhere in a command -/

/-- Of the new events a failed exchange can only be the last; the command then ends with `BusFailure`, the controller
and the fault latch as they were, and a DeviceState as `D` says. -/
def EndsOnFailure (D : DevState → Prop) (s : State) (o : Host.Outcome State Fault Refusal) : Prop :=
  ∃ t new, o = .next t ∧ t.trace = s.trace ++ new ∧ failedOnlyLast new ∧
    ((∃ e ∈ new, e.failedExchange = true) →
      t.ok = false ∧ t.res = 0x02 ∧ t.ctl = s.ctl ∧ t.fault = s.fault ∧ D t.dev)

/-- How a command other than INIT can stop: it does end, and a failed exchange is a local failure that leaves the
controller and the fault latch as they were. -/
def StopsLocally (D : DevState → Prop) (s : State) (w : Stop) (u : State) : Prop :=
  w ≠ .hang ∧
    (w.isBusFailure = true → w = .fail .busFailure ∧ u.ctl = s.ctl ∧ u.fault = s.fault ∧ D u.dev)

/-- The new events of a run, the failed exchange only last among them. -/
theorem Accounts.exists_failedOnlyLast {α : Type} {s : State} {r : Run α} (h : Accounts s r) :
    ∃ new, r.state.trace = s.trace ++ new ∧ failedOnlyLast new := by
  obtain ⟨new, htrace, hnew⟩ := h
  refine ⟨new, htrace, ?_⟩
  cases r with
  | go a u => exact Clean.failedOnlyLast hnew
  | stop w u =>
    revert hnew
    dsimp only
    split
    · exact EndsFailed.failedOnlyLast
    · exact Clean.failedOnlyLast

section FailsAnywhere

variable {D : DevState → Prop} {s : State}

/-- An end without a failed exchange. -/
theorem EndsOnFailure.of_clean {t : State} (new : List Event) (htrace : t.trace = s.trace ++ new) (hc : Clean new) :
    EndsOnFailure D s (.next t) :=
  ⟨t, new, rfl, htrace, hc.failedOnlyLast, fun h => absurd h hc.not_exists⟩

/-- Every command whose procedure keeps the account and stops locally. -/
theorem runCmd_endsOnFailure {g : CmdGroup} {body : State → Run Word32} (hA : Accounts s (body s))
    (hM : (body s).Meets (fun _ _ => True) (StopsLocally D s)) : EndsOnFailure D s (runCmd g body s) := by
  cases hadm : admits g s.ctl with
  | false =>
    rw [runCmd_refused hadm]
    exact .of_clean [] (by simp [State.refuse]) Clean.nil
  | true =>
    rw [runCmd_admitted hadm]
    obtain ⟨new, htrace, hnew⟩ := hA
    rcases hr : body s with ⟨v, u⟩ | ⟨e | c | _, u⟩ <;> rw [hr] at htrace hnew hM
    · exact .of_clean new htrace hnew
    · dsimp only at hnew
      split at hnew
      · rename_i hbus
        obtain ⟨hstop, hctl, hfault, hdev⟩ := hM.2 hbus
        cases hstop
        exact ⟨_, new, rfl, htrace, hnew.failedOnlyLast, fun _ => ⟨rfl, rfl, hctl, hfault, hdev⟩⟩
      · exact .of_clean new htrace hnew
    · dsimp only at hnew
      split at hnew
      · rename_i hbus
        cases (hM.2 hbus).1
      · refine .of_clean (new ++ [.ctl .faulted]) ?_ (hnew.append (by simp [Clean, Event.failedExchange]))
        rw [raiseFatal_trace, ← List.append_assoc, ← htrace]
        rfl
    · exact absurd rfl hM.1

/-- A stop by something else than a failed exchange. -/
theorem StopsLocally.of_other {w : Stop} {u : State} (hw : w.isBusFailure = false) (hh : w ≠ .hang) :
    StopsLocally D s w u := ⟨hh, fun h => by simp [hw] at h⟩

/-- A procedure that stops before any exchange, by a check. -/
theorem runCmd_endsOnFailure_of_check {g : CmdGroup} {body : State → Run Word32} {w : Stop} (h : body s = .stop w s)
    (hw : w.isBusFailure = false) (hh : w ≠ .hang) : EndsOnFailure D s (runCmd g body s) :=
  runCmd_endsOnFailure (h ▸ Accounts.stop hw) (h ▸ StopsLocally.of_other hw hh)

/-- A failed exchange after nothing but traffic. -/
theorem BusFailed.stopsLocally {k : Nat} {u v : State} {w : Stop} (h : BusFailed k u w v) (hctl : u.ctl = s.ctl)
    (hfault : u.fault = s.fault) (hD : D u.dev) : StopsLocally D s w v := by
  obtain ⟨rfl, ht, -⟩ := h
  exact ⟨Stop.noConfusion, fun _ => ⟨rfl, ht.ctl.trans hctl, ht.fault.trans hfault, ht.dev ▸ hD⟩⟩

/-- A command that only sends. -/
theorem Sends.endsOnFailure {k : Nat} {g : CmdGroup} {body : State → Run Word32} (h : Sends k s (body s))
    (hD : D s.dev) : EndsOnFailure D s (runCmd g body s) :=
  runCmd_endsOnFailure h.accounts (h.meets.mono (fun _ _ _ => trivial) fun _ _ hf => hf.stopsLocally rfl rfl hD)

theorem isBusFailure_fail {e : LocalError} (h : e ≠ .busFailure) : (Stop.fail e).isBusFailure = false := by
  cases e with
  | busFailure => exact absurd rfl h
  | _ => rfl

/-! ### The commands that do more than send -/

theorem execWrreg_endsOnFailure (hD : D s.dev) (a : Addr) (v : Byte) : EndsOnFailure D s (execWrreg a v s) := by
  cases hcheck : writeCheck a with
  | some e =>
    exact runCmd_endsOnFailure_of_check (wrregBody_rejected hcheck v s)
      (isBusFailure_fail (writeCheck_ne_busFailure hcheck)) Stop.noConfusion
  | none => exact (wrregBody_sends hcheck v s).endsOnFailure hD

theorem execWrburst_endsOnFailure (hD : D s.dev) (a : Addr) (n : Byte) : EndsOnFailure D s (execWrburst a n s) := by
  cases hcheck : burstCheck a n 8 with
  | some e =>
    exact runCmd_endsOnFailure_of_check (wrburstBody_rejected hcheck s)
      (isBusFailure_fail (burstCheck_ne_busFailure hcheck)) Stop.noConfusion
  | none => exact (wrburstBody_sends hcheck s).endsOnFailure hD

theorem execRdburst_endsOnFailure (hD : D s.dev) (a : Addr) (n : Byte) : EndsOnFailure D s (execRdburst a n s) := by
  cases hcheck : burstCheck a n 255 with
  | some e =>
    exact runCmd_endsOnFailure_of_check (rdburstBody_rejected hcheck s)
      (isBusFailure_fail (burstCheck_ne_busFailure hcheck)) Stop.noConfusion
  | none => exact (rdburstBody_sends hcheck s).endsOnFailure hD

theorem setfreqBody_accounts (hz : Word32) (s : State) : Accounts s (setfreqBody hz s) := by
  cases hw : freqOverflow (encFreq (clampHz hz.toNat) s.oscNat) with
  | true => rw [setfreqBody_overflow hw]; exact .stop rfl
  | false =>
    rw [setfreqBody_fits hw]
    exact (freqWrites_sends _ s).accounts.bind fun _ u _ => .go [] (by simp) Clean.nil

theorem execSetfreq_endsOnFailure (hD : D s.dev) (hz : Word32) : EndsOnFailure D s (execSetfreq hz s) := by
  refine runCmd_endsOnFailure (setfreqBody_accounts hz s) ?_
  cases hw : freqOverflow (encFreq (clampHz hz.toNat) s.oscNat) with
  | true => rw [setfreqBody_overflow hw]; exact .of_other rfl Stop.noConfusion
  | false =>
    rw [setfreqBody_fits hw]
    exact ((freqWrites_sends _ s).meets.mono (fun _ _ h => h) fun _ _ hf => hf.stopsLocally rfl rfl hD).bind
      fun _ _ _ => trivial

theorem setpwrBody_accounts (dbm : Byte) (s : State) : Accounts s (setpwrBody dbm s) := by
  cases hf : s.dev.freqHz with
  | none => rw [setpwrBody_unset hf]; exact .stop rfl
  | some f =>
    by_cases hl : paTableFits s.cfg f
    · exact .afterEvents (u := s.staged f dbm) [] (by simp [State.staged]) Clean.nil (setpwrBody_sends hf hl).accounts
    · rw [setpwrBody_badTable hf hl]; exact .stop rfl

/-- SETPWR has staged its slots when its burst fails, so nothing is said of DeviceState. -/
theorem execSetpwr_endsOnFailure (hD : ∀ d, D d) (dbm : Byte) : EndsOnFailure D s (execSetpwr dbm s) := by
  refine runCmd_endsOnFailure (setpwrBody_accounts dbm s) ?_
  cases hf : s.dev.freqHz with
  | none => rw [setpwrBody_unset hf]; exact .of_other rfl Stop.noConfusion
  | some f =>
    by_cases hl : paTableFits s.cfg f
    · exact (setpwrBody_sends hf hl).meets.mono (fun _ _ _ => trivial) fun _ _ h => h.stopsLocally rfl rfl (hD _)
    · rw [setpwrBody_badTable hf hl]; exact .of_other rfl Stop.noConfusion

theorem execSetmod_endsOnFailure (hD : D s.dev) : EndsOnFailure D s (execSetmod s) := by
  cases hm : modReserved (modField s.radio.modem) with
  | true => exact runCmd_endsOnFailure_of_check (setmodBody_reserved hm) rfl Stop.noConfusion
  | false => exact (setmodBody_sends hm).endsOnFailure hD

theorem execCfgw_endsOnFailure (idx : CsrIdx) (v : Word32) : EndsOnFailure D s (execCfgw idx v s) := by
  cases hcheck : csrWriteCheck idx v with
  | some e =>
    exact runCmd_endsOnFailure_of_check (w := .fail e) (by simp only [cfgwBody, hcheck])
      (isBusFailure_fail (csrWriteCheck_ne_busFailure hcheck)) Stop.noConfusion
  | none =>
    have hbody : cfgwBody idx v s = .go (csrTrim idx v) (s.setRadio (radioWrite s.radio idx v)) := by
      simp only [cfgwBody, hcheck]
    exact runCmd_endsOnFailure (hbody ▸ .go [] (by simp) Clean.nil) (by rw [hbody]; trivial)

theorem execCfgr_endsOnFailure (idx : CsrIdx) : EndsOnFailure D s (execCfgr idx s) :=
  runCmd_endsOnFailure (Accounts.stay _ s) trivial

theorem post_trace (s : State) : s.post.trace = s.trace := by
  unfold State.post
  split <;> rfl

/-- UPDATE makes no exchange: it goes on or times out. -/
theorem execUpdate_endsOnFailure : EndsOnFailure D s (execUpdate s) := by
  have hA : Accounts s (updateBody s) := by
    unfold updateBody
    split
    · exact .go [] (by simp [State.takeNotification]) Clean.nil
    · split
      · split
        · exact .go [] (by simp [State.takeNotification, post_trace]) Clean.nil
        · exact .afterEvents (u := s.setEnv s.env.afterWait) [] (by simp) Clean.nil (.stop rfl)
      · exact .stop rfl
  refine runCmd_endsOnFailure hA ?_
  unfold updateBody
  split
  · trivial
  · split
    · split
      · trivial
      · exact .of_other rfl Stop.noConfusion
    · exact .of_other rfl Stop.noConfusion

theorem runReserved_endsOnFailure : EndsOnFailure D s (runReserved s) := by
  by_cases hctl : s.ctl = .faulted
  · rw [runReserved_refused hctl]
    exact .of_clean [] (by simp [State.refuse]) Clean.nil
  · rw [runReserved_fatal hctl]
    exact .of_clean [.ctl .faulted] (by simp) (by simp [Clean, Event.failedExchange])

/-- BEGINRX's attempts: the strobes, the delays between them, and the move or the log event at the end. -/
theorem rxAttempt_accounts (k t : Nat) (s : State) : Accounts s (rxAttempt k t s) := by
  induction k generalizing t s with
  | zero =>
    refine (busStrobe_sends _ s).accounts.bind fun r u _ => ?_
    split
    · exact .go [_] rfl (by simp [Clean, Event.failedExchange])
    · exact .afterEvents (u := u.emit (.log .rxEntryFail)) [_] rfl (by simp [Clean, Event.failedExchange]) (.stop rfl)
  | succ k ih =>
    refine (busStrobe_sends _ s).accounts.bind fun r u _ => ?_
    split
    · exact .go [_] rfl (by simp [Clean, Event.failedExchange])
    · exact .afterEvents (u := u.emit (.delay rxRetryGapUs)) [_] rfl (by simp [Clean, Event.failedExchange]) (ih _ _)

theorem rxAttempt_stopsLocally {u : State} (k t : Nat) (hctl : u.ctl = s.ctl) (hfault : u.fault = s.fault)
    (hD : D u.dev) : (rxAttempt k t u).Meets (fun _ _ => True) (StopsLocally D s) := by
  have hstrobe (u : State) (hctl : u.ctl = s.ctl) (hfault : u.fault = s.fault) (hD : D u.dev) :
      (busStrobe u.cfg.stb.srx u).Meets (fun _ v => TrafficOnly u v) (StopsLocally D s) :=
    (busStrobe_sends _ u).meets.mono (fun _ _ h => h.traffic) fun _ _ h => h.stopsLocally hctl hfault hD
  induction k generalizing t u with
  | zero =>
    refine (hstrobe u hctl hfault hD).bind fun r v _ => ?_
    split
    · trivial
    · exact .of_other rfl Stop.noConfusion
  | succ k ih =>
    refine (hstrobe u hctl hfault hD).bind fun r v hv => ?_
    split
    · trivial
    · exact ih _ (hv.ctl.trans hctl) (hv.fault.trans hfault) (hv.dev ▸ hD)

theorem execBeginrx_endsOnFailure (hD : D s.dev) : EndsOnFailure D s (execBeginrx s) := by
  refine runCmd_endsOnFailure ?_ (rxAttempt_stopsLocally _ _ rfl rfl hD)
  exact .afterEvents
    (u := ((s.emit (.gpio (.armInterrupt s.radio.edge))).emit (.gpio .installHandler)).arm s.radio.edge)
    [.gpio (.armInterrupt s.radio.edge), .gpio .installHandler] (by simp) (by simp [Clean, Event.failedExchange])
    (rxAttempt_accounts _ _ _)

end FailsAnywhere

/-- Every command but INIT ends on a failed exchange, wherever it is. -/
theorem exec_command_endsOnFailure {i : Instr} {s : State} (hinit : i ≠ .init) (hi : isCommand i = true) :
    EndsOnFailure (fun d => (∀ dbm, i ≠ .setpwr dbm) → d = s.dev) s (exec i s) := by
  cases i with
  | cfgw idx v => exact execCfgw_endsOnFailure idx v
  | cfgr idx => exact execCfgr_endsOnFailure idx
  | setfreq hz => exact execSetfreq_endsOnFailure (fun _ => rfl) hz
  | setbw hz => exact (setbwBody_sends hz s).endsOnFailure fun _ => rfl
  | setdev hz => exact (setdevBody_sends hz s).endsOnFailure fun _ => rfl
  | setpwr dbm => exact execSetpwr_endsOnFailure (fun _ h => absurd rfl (h dbm)) dbm
  | setmod => exact execSetmod_endsOnFailure fun _ => rfl
  | wrreg a v => exact execWrreg_endsOnFailure (fun _ => rfl) a v
  | rdreg a => exact (rdregBody_sends a s).endsOnFailure fun _ => rfl
  | wrburst a n => exact execWrburst_endsOnFailure (fun _ => rfl) a n
  | rdburst a n => exact execRdburst_endsOnFailure (fun _ => rfl) a n
  | interpW status => exact (interpBody_sends status .write s).endsOnFailure fun _ => rfl
  | interpR status => exact (interpBody_sends status .read s).endsOnFailure fun _ => rfl
  | init => exact absurd rfl hinit
  | beginrx => exact execBeginrx_endsOnFailure fun _ => rfl
  | update => exact execUpdate_endsOnFailure
  | strobe c => exact (strobeBody_sends c s).endsOnFailure fun _ => rfl
  | reserved0 => exact runReserved_endsOnFailure
  | reservedE => exact runReserved_endsOnFailure
  | reservedF => exact runReserved_endsOnFailure
  | _ => cases hi

/-- A bus header row is its primitive: it leaves that primitive's state, the failed exchange only last. -/
theorem exec_header_failedOnlyLast {i : Instr} {s : State} (hi : isCommand i = false) :
    ∃ t new, exec i s = .next t ∧ t.trace = s.trace ++ new ∧ failedOnlyLast new := by
  have hprim {α : Type} {r : Run α} (hexec : exec i s = .next r.state) (hr : Accounts s r) :
      ∃ t new, exec i s = .next t ∧ t.trace = s.trace ++ new ∧ failedOnlyLast new := by
    obtain ⟨new, htrace, hlast⟩ := hr.exists_failedOnlyLast
    exact ⟨_, new, hexec, htrace, hlast⟩
  cases i with
  | hdrWrite1 a v => exact hprim rfl (busWrite1_accounts a v s)
  | hdrWriteN a payload => exact hprim rfl (busWriteN_accounts a payload s)
  | hdrRead1 a => exact hprim rfl (busRead1_accounts a s)
  | hdrReadN a n =>
    cases ha : isStatus a with
    | true => exact hprim (congrArg Host.Outcome.next (if_pos ha)) (busRead1_accounts a s)
    | false => exact hprim (congrArg Host.Outcome.next (if_neg (by simp [ha]))) (busReadN_accounts a n.toNat s)
  | _ => cases hi

/-- Settles O39: first the exact ends, command by command; then every instruction, by the account of its failed
exchange. -/
theorem failedExchangeEndsTheCommand : Obligations.FailedExchangeEndsTheCommand := by
  constructor
  · intro s addr v hz osc a rest w k ended hctl hans hfail
    refine ⟨fun hn => ⟨?_, ?_, ?_, ?_⟩, ?_, fun hdata => ?_⟩
    · exact runCmd_failed (admits_radio hctl) rfl hans hfail hn
    · exact runCmd_failed (admits_radio hctl) rfl hans hfail hn
    · exact fun hd => runCmd_interp_failed hctl hd hans hfail hn
    · exact fun hd => runCmd_interp_failed hctl hd hans hfail hn
    · intro hn hv haddr
      have h1 : 1 ≤ v.toNat := by bv_omega
      have hcheck := burstCheck_eq_none (isStatus_eq_false haddr) h1 (Nat.le_of_lt_succ v.isLt)
      exact runCmd_failed (admits_radio hctl) (rdburstBody_admitted hcheck s) hans hfail hn
    · have hn : a.data.length = 0 := by rw [hdata]; rfl
      refine ⟨?_, fun haddr => ⟨?_, fun h1 h8 => ?_⟩, fun hosc hosc0 hw hlt => ?_, fun hosc hwf hk => ?_, fun hm => ?_,
        fun hidle => ?_⟩
      · exact runCmd_failed (admits_radio hctl) rfl hans hfail hn
      · exact runCmd_failed (admits_radio hctl) (wrregBody_admitted (writeCheck_eq_none (isStatus_eq_false haddr)) v s)
          hans hfail hn
      · have hcheck := burstCheck_eq_none (isStatus_eq_false haddr) h1 h8
        exact runCmd_failed (admits_radio hctl) (wrburstBody_admitted hcheck s) hans hfail hn
      · exact execSetfreq_failed_word hctl hosc hosc0 hw hlt hans hfail hn
      · exact hk ▸ execSetdev_failed_index hctl hosc hwf hans hfail hn
      · have hbody : setmodBody s = (busWrite1 s.cfg.reg.mdmcfg2 (modemByte s.cfg.mdmcfg2 s.radio.modem) s).bind _ :=
          if_neg (by simp [hm])
        exact runCmd_failed (admits_radio hctl) hbody hans hfail hn
      · have h : exec .beginrx s = _ := execBeginrx_failed hidle hans hfail hn
        simpa [State.exchanged, State.complete, State.emit, State.arm] using h
  · intro i s hinit
    cases hi : isCommand i with
    | true =>
      obtain ⟨t, new, hexec, htrace, hlast, hend⟩ := exec_command_endsOnFailure (s := s) hinit hi
      exact ⟨t, new, hexec, htrace, hlast, fun hfailed _ => hend hfailed⟩
    | false =>
      obtain ⟨t, new, hexec, htrace, hlast⟩ := exec_header_failedOnlyLast (s := s) hi
      exact ⟨t, new, hexec, htrace, hlast, fun _ h => by cases h⟩

end Sys2Proof.Machine
end

section
/-! SUPPORT. INIT by its phases (46_controller.md R250 to R257): what each keeps of the state INIT started from, and
the causes by which each can stop. -/

namespace Sys2Proof.Machine

/-! ### What INIT asks of its configuration -/

theorem clampHz_toNat (f : Nat) : (BitVec.ofNat 32 (clampHz f)).toNat = clampHz f := by
  have hle : clampHz f ≤ 928000000 := Nat.min_le_right _ _
  rw [BitVec.toNat_ofNat, Nat.mod_eq_of_lt (by omega)]

/-- The carrier INIT records (R121, R124). -/
def initCarrier (s : State) : Word32 := BitVec.ofNat 32 (clampHz s.radio.freqHz.toNat)

theorem initWordFits_iff {s : State} (h : s.radio.oscHz ≠ 0) :
    initWordFits s ↔ freqOverflow (encFreq (clampHz s.radio.freqHz.toNat) s.radio.oscHz.toNat) = false := by
  rw [freqOverflow_eq_false_iff, encFreq_eq_floor _ (by bv_omega)]
  rfl

theorem initTableFits_iff (s : State) : initTableFits s ↔ paTableFits s.cfg (initCarrier s) := by
  rw [paTableFits, initCarrier, clampHz_toNat]
  rfl

theorem initModulationFits_iff (s : State) :
    initModulationFits s ↔ modReserved (modField s.radio.modem) = false := by
  have hfield : (modField s.radio.modem).toNat = s.radio.modem.toNat % 8 := by simp [modField]
  simp only [initModulationFits, modReserved, Bool.or_eq_false_iff, beq_eq_false_iff_ne, ne_eq, ← BitVec.toNat_inj,
    hfield, and_assoc]
  rfl

/-! ### What the phases keep -/

/-- INIT is under way from `s`: the oscillator is recorded, and nothing that INIT does not write has changed. -/
structure Prepared (s u : State) : Prop where
  oscNe : s.radio.oscHz ≠ 0
  cfg : u.cfg = s.cfg
  radio : u.radio = s.radio
  fault : u.fault = s.fault
  osc : u.dev.oscHz = some s.radio.oscHz
  trace : s.trace <+: u.trace

theorem Prepared.start {s : State} (h : s.radio.oscHz ≠ 0) :
    Prepared s ((s.setOsc s.radio.oscHz).setCtl .resetting) :=
  ⟨h, rfl, rfl, rfl, rfl, ⟨_, rfl⟩⟩

theorem Prepared.traffic {s u v : State} (h : Prepared s u) (ht : TrafficOnly u v) : Prepared s v := by
  obtain ⟨new, htrace, -⟩ := ht.trace
  exact ⟨h.oscNe, ht.cfg.trans h.cfg, ht.radio.trans h.radio, ht.fault.trans h.fault, ht.dev ▸ h.osc,
    h.trace.trans ⟨new, htrace.symm⟩⟩

/-- Events, the controller state and the environment are nothing `Prepared` speaks of. -/
theorem Prepared.congr {s u v : State} (h : Prepared s u) (new : List Event) (hcfg : v.cfg = u.cfg)
    (hradio : v.radio = u.radio) (hfault : v.fault = u.fault) (hdev : v.dev = u.dev)
    (htrace : v.trace = u.trace ++ new) : Prepared s v :=
  ⟨h.oscNe, hcfg.trans h.cfg, hradio.trans h.radio, hfault.trans h.fault, hdev ▸ h.osc,
    h.trace.trans ⟨new, htrace.symm⟩⟩

theorem Prepared.setCtl {s u : State} (h : Prepared s u) (c : CtlState) : Prepared s (u.setCtl c) :=
  h.congr [.ctl c] rfl rfl rfl rfl rfl

theorem Prepared.emit {s u : State} (h : Prepared s u) (e : Event) : Prepared s (u.emit e) :=
  h.congr [e] rfl rfl rfl rfl rfl

/-- The carrier is recorded too, from a word that fits. -/
structure Tuned (s u : State) : Prop extends Prepared s u where
  carrier : u.dev.freqHz = some (initCarrier s)
  wordFits : initWordFits s

theorem Tuned.traffic {s u v : State} (h : Tuned s u) (ht : TrafficOnly u v) : Tuned s v :=
  ⟨h.toPrepared.traffic ht, ht.dev ▸ h.carrier, h.wordFits⟩

theorem Tuned.staged {s u : State} (h : Tuned s u) (f : Word32) (dbm : Byte) : Tuned s (u.staged f dbm) :=
  ⟨⟨h.oscNe, h.cfg, h.radio, h.fault, h.osc, h.trace⟩, h.carrier, h.wordFits⟩

/-- The configuration has been loaded. -/
structure Loaded (s u : State) : Prop extends Tuned s u where
  tableFits : initTableFits s
  modulationFits : initModulationFits s

/-! ### How INIT stops -/

/-- Both identification bytes are the expected ones (R257). -/
def goodIds (p v : Answer) : Prop := p.data = [0x00] ∧ v.data = [0x14]

/-- What is known of `s`, from which INIT was started, and of the state `u` in which a cause of fault stopped it. -/
def InitCause (s u : State) : FatalCode → Prop
  | .busFailure => True
  | .freqWordOverflow => ¬ initWordFits s
  | .paTableLength => initWordFits s ∧ ¬ initTableFits s
  | .invalidModulation => initWordFits s ∧ initTableFits s ∧ ¬ initModulationFits s
  | .verifyFail => initWordFits s ∧ initTableFits s ∧ initModulationFits s ∧
      ∃ new p v, u.trace = s.trace ++ new ∧ identified s new p v ∧ ¬ goodIds p v
  | .badOscillator => False
  | .illegalCommand => False
  | .carrierUnset => False

/-- INIT past its oscillator check stops by the hang or by one of its causes, never by a local failure. -/
def InitExit (s : State) (w : Stop) (u : State) : Prop := w = .hang ∨ ∃ c, w = .fatal c ∧ InitCause s u c

/-- A part of INIT, run from `u`: where it goes on `post` holds, where it stops INIT has a cause, and it accounts for
its failed exchange. -/
structure Phase {α : Type} (s u : State) (r : Run α) (post : α → State → Prop) : Prop where
  meets : r.Meets post (InitExit s)
  accounts : Accounts u r

section Phases

variable {α β : Type} {s u : State}

theorem Phase.stay {a : α} {P : α → State → Prop} (h : P a u) : Phase s u (Run.go a u) P := ⟨h, .stay a u⟩

theorem Phase.stop {w : Stop} {P : α → State → Prop} (h : InitExit s w u) (hw : w.isBusFailure = false) :
    Phase s u (Run.stop w u) P := ⟨h, .stop hw⟩

theorem Phase.mono {r : Run α} {P Q : α → State → Prop} (h : Phase s u r P) (hpq : ∀ a v, P a v → Q a v) :
    Phase s u r Q := ⟨h.meets.mono hpq fun _ _ h => h, h.accounts⟩

theorem Phase.bind {r : Run α} {f : α → State → Run β} {P : α → State → Prop} {Q : β → State → Prop}
    (h : Phase s u r P) (hf : ∀ a v, P a v → Phase s v (f a v) Q) : Phase s u (r.bind f) Q := by
  refine ⟨h.meets.bind fun a v hp => (hf a v hp).meets, h.accounts.bind fun a v hgo => ?_⟩
  have hp := h.meets
  rw [hgo] at hp
  exact (hf a v hp).accounts

/-- A phase after some events that are no failed exchange. -/
theorem Phase.afterEvents {v : State} {r : Run α} {P : α → State → Prop} (new : List Event)
    (htrace : v.trace = u.trace ++ new) (hc : Clean new) (h : Phase s v r P) : Phase s u r P :=
  ⟨h.meets, .afterEvents new htrace hc h.accounts⟩

/-- A procedure that only sends, its failure lifted to INIT's fatal fault (R256). -/
theorem Sends.phase {k : Nat} {r : Run α} (h : Sends k u r) :
    Phase s u r.fatalOnFail (fun _ v => TrafficOnly u v) := by
  obtain ⟨hm, ha⟩ := h
  cases r with
  | go a v => exact ⟨hm.traffic, ha⟩
  | stop w v =>
    obtain ⟨rfl, -, -⟩ := hm
    exact ⟨.inr ⟨_, rfl, trivial⟩, ha⟩

/-- A SET command's procedure that only sends, run as a part of INIT. -/
theorem Sends.sub_phase {k : Nat} {body : State → Run Word32} (h : Sends k u (body u)) :
    Phase s u (sub body u) (fun _ v => TrafficOnly u v) := h.phase.bind fun _ _ ht => .stay ht

/-- A SET command's procedure that a check stops. -/
theorem sub_stop {body : State → Run Word32} {c : FatalCode} (h : body u = .stop (.fatal c) u) :
    sub body u = .stop (.fatal c) u := by rw [sub, h]; rfl

/-! ### Resetting (R253) -/

theorem waitEvents_clean (k : Nat) : Clean (waitEvents k) := by
  intro e he
  rcases List.mem_append.mp he with he | he
  · rw [List.eq_of_mem_replicate he]; rfl
  · rw [List.mem_singleton.mp he]; rfl

theorem waitLevels_phase (ls : List Bool) (h : Prepared s u) :
    Phase s u (waitLevels ls u) (fun _ v => Prepared s v) := by
  induction ls generalizing u with
  | nil =>
    unfold waitLevels
    dsimp only
    cases Config.freeReadyAfter u.env.fresh with
    | none => exact .afterEvents (v := u.setEnv _) [] (by simp) Clean.nil (.stop (.inl rfl) rfl)
    | some k =>
      exact ⟨h.congr (waitEvents k) rfl rfl rfl rfl (List.append_assoc _ _ _),
        .go (waitEvents k) (List.append_assoc _ _ _) (waitEvents_clean k)⟩
  | cons l rest ih =>
    have hread : Prepared s ((u.setEnv { u.env with levels := rest }).emit (.line (.dataInRead l))) :=
      h.congr [.line (.dataInRead l)] rfl rfl rfl rfl rfl
    refine .afterEvents (v := (u.setEnv { u.env with levels := rest }).emit (.line (.dataInRead l)))
      [.line (.dataInRead l)] rfl (by simp [Clean, Event.failedExchange]) ?_
    unfold waitLevels
    cases l with
    | true => exact ih hread
    | false => exact .stay hread

/-- The line operations before the first ready-wait (R253). -/
def State.pulsed (u : State) : State :=
  ((((u.emit (.line (.clockSet true))).emit (.line (.dataOutSet false))).emit (.line .csAssert)).emit
    (.delay resetCsDwellUs)).emit (.line .csDeassert)

theorem pulsed_trace (u : State) : u.pulsed.trace = u.trace ++ [.line (.clockSet true), .line (.dataOutSet false),
    .line .csAssert, .delay resetCsDwellUs, .line .csDeassert] := by simp [State.pulsed]

theorem resetSeq_phase (h : Prepared s u) : Phase s u (resetSeq u) (fun _ v => Prepared s v) := by
  have hpulsed : Prepared s u.pulsed := ((((h.emit _).emit _).emit _).emit _).emit _
  refine .afterEvents (v := u.pulsed) _ (pulsed_trace u) (by simp [Clean, Event.failedExchange])
    ((waitLevels_phase u.pulsed.env.levels hpulsed).bind fun _ v hv => ?_)
  exact (busStrobe_sends _ v).phase.bind fun _ x hx => waitLevels_phase x.env.levels (hv.traffic hx)

/-! ### Configuration loading (R254, R255) -/

theorem writeAll_phase (ws : List (Addr × Byte)) : Phase s u (writeAll ws u) (fun _ v => TrafficOnly u v) := by
  induction ws generalizing u with
  | nil => exact .stay (TrafficOnly.refl u)
  | cons w ws ih =>
    exact (busWrite1_sends w.1 w.2 u).phase.bind fun _ v hv => ih.mono fun _ _ => hv.trans

theorem setfreq_phase (h : Prepared s u) :
    Phase s u (sub (setfreqBody u.radio.freqHz) u) (fun _ v => Tuned s v) := by
  have hword := initWordFits_iff h.oscNe
  rw [h.radio]
  rw [← oscNat_eq h.osc] at hword
  cases hw : freqOverflow (encFreq (clampHz s.radio.freqHz.toNat) u.oscNat) with
  | true =>
    rw [sub_stop (setfreqBody_overflow hw)]
    exact .stop (.inr ⟨_, rfl, fun hfits => by rw [hword, hw] at hfits; cases hfits⟩) rfl
  | false =>
    have hsub : sub (setfreqBody s.radio.freqHz) u =
        (freqWrites (encFreq (clampHz s.radio.freqHz.toNat) u.oscNat) u).fatalOnFail.bind fun _ v =>
          .go () (v.setFreq (initCarrier s)) := by
      rw [sub, setfreqBody_fits hw]
      rcases freqWrites (encFreq (clampHz s.radio.freqHz.toNat) u.oscNat) u with ⟨_, v⟩ | ⟨_ | _ | _, v⟩ <;> rfl
    rw [hsub]
    refine (freqWrites_sends _ u).phase.bind fun _ v hv => ⟨?_, .go [] (by simp) Clean.nil⟩
    obtain ⟨hosc, hcfg, hradio, hfault, hdev, htrace⟩ := h.traffic hv
    exact ⟨⟨hosc, hcfg, hradio, hfault, hdev, htrace⟩, rfl, hword.mpr hw⟩

theorem devStep_phase : Phase s u (devStep u) (fun _ v => TrafficOnly u v) := by
  unfold devStep
  split
  · exact .stay (TrafficOnly.refl u)
  · exact (setdevBody_sends _ u).sub_phase

theorem setpwr_phase (h : Tuned s u) (dbm : Byte) :
    Phase s u (sub (setpwrBody dbm) u) (fun _ v => Tuned s v ∧ initTableFits s) := by
  have htable := initTableFits_iff s
  rw [← h.cfg] at htable
  by_cases hl : paTableFits u.cfg (initCarrier s)
  · have hsends := setpwrBody_sends (dbm := dbm) h.carrier hl
    exact .afterEvents (v := u.staged (initCarrier s) dbm) [] (by simp [State.staged]) Clean.nil
      (hsends.phase.bind fun _ v hv => .stay ⟨(h.staged _ _).traffic hv, htable.mpr hl⟩)
  · rw [sub_stop (setpwrBody_badTable h.carrier hl)]
    exact .stop (.inr ⟨_, rfl, h.wordFits, mt htable.mp hl⟩) rfl

theorem setmod_phase (h : Tuned s u) (htable : initTableFits s) :
    Phase s u (sub setmodBody u) (fun _ v => Loaded s v) := by
  have hmod := initModulationFits_iff s
  rw [← h.radio] at hmod
  cases hm : modReserved (modField u.radio.modem) with
  | true =>
    rw [sub_stop (setmodBody_reserved hm)]
    exact .stop (.inr ⟨_, rfl, h.wordFits, htable, fun hfits => by rw [hmod, hm] at hfits; cases hfits⟩) rfl
  | false => exact (setmodBody_sends hm).sub_phase.mono fun _ v hv => ⟨h.traffic hv, htable, hmod.mpr hm⟩

theorem loadConfig_phase (h : Prepared s u) : Phase s u (loadConfig u) (fun _ v => Loaded s v) := by
  refine (writeAll_phase _).bind fun _ s1 h1 => (writeAll_phase _).bind fun _ s2 h2 => ?_
  refine (setfreq_phase ((h.traffic h1).traffic h2)).bind fun _ s3 h3 => ?_
  refine (setbwBody_sends _ s3).sub_phase.bind fun _ s4 h4 => devStep_phase.bind fun _ s5 h5 => ?_
  refine (setpwr_phase ((h3.traffic h4).traffic h5) _).bind fun _ s6 h6 => ?_
  refine (setmod_phase h6.1 h6.2).bind fun _ s7 h7 => (writeAll_phase _).mono fun _ s8 h8 => ?_
  exact ⟨h7.toTuned.traffic h8, h7.tableFits, h7.modulationFits⟩

/-! ### Verification (R257) -/

/-- A single read with success: its event, its one byte, and traffic after it. -/
structure ReadOf (a : Addr) (u : State) (r : Answer) (v : State) : Prop where
  traffic : TrafficOnly u v
  ok : r.ok = true
  data : r.data = [r.byte]
  trace : ∃ new, v.trace = u.trace ++ .bus .read1 (hdr 1 0 a) [] r :: new ∧ ∀ e ∈ new, e.isTraffic = true

theorem busRead1_readOf {a : Addr} {r : Answer} {v : State} (h : busRead1 a u = .go r v) : ReadOf a u r v := by
  have htraffic := busRead1_traffic a u
  rw [h] at htraffic
  obtain ⟨rfl, hok⟩ := interpreted_go h
  have hlen : (rawRead1 a u).1.data.length = 1 := nextAnswer_length _ _
  obtain ⟨b, hb⟩ := List.length_eq_one_iff.mp hlen
  refine ⟨htraffic, hok, by simp [Answer.byte, hb], ?_⟩
  unfold busRead1 interpreted at h
  rw [if_pos hok] at h
  obtain ⟨act, x, hx, hgo⟩ := Run.bind_eq_go h
  cases hgo
  have hinterp := interp_traffic (rawRead1 a u).1.status .read (rawRead1 a u).2
  rw [hx] at hinterp
  obtain ⟨new, htrace, hnew⟩ := hinterp.trace
  refine ⟨new, ?_, hnew⟩
  rw [Run.state_go] at htrace
  rw [htrace, rawRead1, exchange_trace, List.append_assoc]
  rfl

theorem read_phase (a : Addr) : Phase s u (busRead1 a u).fatalOnFail (ReadOf a u) := by
  have hphase : Phase s u (busRead1 a u).fatalOnFail (fun _ v => TrafficOnly u v) := (busRead1_sends a u).phase
  refine ⟨?_, hphase.accounts⟩
  have hm := hphase.meets
  cases hr : (busRead1 a u).fatalOnFail with
  | go r v => exact busRead1_readOf (Run.fatalOnFail_eq_go hr)
  | stop w v => rw [hr] at hm; exact hm

/-- INIT has ended ready, with `res` for a result. -/
structure InitDone (s : State) (res : Word32) (t : State) : Prop extends Loaded s t where
  res : res = 0x1400
  ctl : t.ctl = .idleReady
  ids : ∃ new p v, t.trace = s.trace ++ new ++ [.ctl .idleReady] ∧ identified s new p v ∧ goodIds p v

/-- The events of both reads, after those that led to Verifying. -/
theorem identified_of_reads {before : List Event} {u1 u2 : State} {p v : Answer} (hcfg : u.cfg = s.cfg)
    (hu : u.trace = s.trace ++ before ++ [.ctl .verifying]) (hp : ReadOf u.cfg.reg.partnum u p u1)
    (hv : ReadOf u1.cfg.reg.version u1 v u2) : ∃ new, u2.trace = s.trace ++ new ∧ identified s new p v := by
  obtain ⟨between, htrace1, hbetween⟩ := hp.trace
  obtain ⟨after, htrace2, hafter⟩ := hv.trace
  have hcfg1 : u1.cfg = s.cfg := hp.traffic.cfg.trans hcfg
  refine ⟨_, ?_, before, between, after, rfl, fun e he => (List.mem_append.mp he).elim (hbetween e) (hafter e), hp.ok,
    hv.ok⟩
  rw [htrace2, htrace1, hu, hcfg, hcfg1]
  simp

theorem verify_phase {before : List Event} (h : Loaded s u)
    (hu : u.trace = s.trace ++ before ++ [.ctl .verifying]) : Phase s u (verify u) (InitDone s) := by
  refine (read_phase _).bind fun p u1 hp => (read_phase _).bind fun v u2 hv => ?_
  obtain ⟨new, htrace, hid⟩ := identified_of_reads h.cfg hu hp hv
  split
  · rename_i hbad
    have hids : ¬ goodIds p v := by
      rintro ⟨hp0, hv0⟩
      simp [Answer.byte, hp0, hv0, partnumExpect, versionExpect] at hbad
    exact .stop (.inr ⟨_, rfl, h.wordFits, h.tableFits, h.modulationFits, new, p, v, htrace, hid, hids⟩) rfl
  · rename_i hgood
    rw [not_or, not_not, not_not] at hgood
    obtain ⟨hpart, hver⟩ := hgood
    have htuned : Tuned s u2 := (h.toTuned.traffic hp.traffic).traffic hv.traffic
    refine ⟨?_, .go [.ctl .idleReady] rfl (by simp [Clean, Event.failedExchange])⟩
    refine ⟨⟨⟨htuned.toPrepared.setCtl _, htuned.carrier, h.wordFits⟩, h.tableFits, h.modulationFits⟩, ?_, rfl,
      new, p, v, ?_, hid, ?_, ?_⟩
    · rw [hpart, hver]; decide
    · rw [setCtl_trace, htrace]
    · rw [hp.data, hpart]; rfl
    · rw [hv.data, hver]; rfl

/-! ### The whole of INIT -/

theorem initBody_phase (h : s.radio.oscHz ≠ 0) : Phase s s (initBody s) (InitDone s) := by
  rw [initBody, if_neg h]
  refine .afterEvents (v := (s.setOsc s.radio.oscHz).setCtl .resetting) [.ctl .resetting] rfl
    (by simp [Clean, Event.failedExchange]) ((resetSeq_phase (.start h)).bind fun _ s1 h1 => ?_)
  refine .afterEvents (v := s1.setCtl .configLoading) [.ctl .configLoading] rfl
    (by simp [Clean, Event.failedExchange]) ((loadConfig_phase (h1.setCtl _)).bind fun _ s2 h2 => ?_)
  obtain ⟨before, hbefore⟩ := h2.trace
  refine .afterEvents (v := s2.setCtl .verifying) [.ctl .verifying] rfl (by simp [Clean, Event.failedExchange])
    (verify_phase (before := before)
      ⟨⟨h2.toPrepared.setCtl _, h2.carrier, h2.wordFits⟩, h2.tableFits, h2.modulationFits⟩
      (by rw [setCtl_trace, hbefore]))

theorem initBody_badOscillator (h : s.radio.oscHz = 0) : initBody s = .stop (.fatal .badOscillator) s := if_pos h

end Phases

/-! ### How INIT ends -/

/-- The codes of R310 are distinct. -/
theorem FatalCode.code_injective {c d : FatalCode} (h : c.code = d.code) : c = d := by
  revert h
  cases c <;> cases d <;> decide

/-- The codes of INIT's causes past its oscillator check (R310). -/
theorem InitCause.code_range {s u : State} {c : FatalCode} (h : InitCause s u c) :
    2 ≤ c.code.toNat ∧ c.code.toNat ≤ 7 := by
  cases c with
  | illegalCommand => exact h.elim
  | carrierUnset => exact h.elim
  | _ => decide

/-- Where a fatal fault stops INIT, a failed exchange is among the new events exactly when it is the cause, and then it
is the last. -/
theorem Accounts.of_fatal {α : Type} {s u : State} {c : FatalCode} (h : Accounts s (Run.stop (.fatal c) u : Run α)) :
    ∃ new, u.trace = s.trace ++ new ∧ failedOnlyLast new ∧
      (c = .busFailure ↔ ∃ e ∈ new, e.failedExchange = true) := by
  obtain ⟨new, htrace, hnew⟩ := h
  refine ⟨new, htrace, ?_⟩
  by_cases hc : c = .busFailure
  · subst hc
    have hfailed : EndsFailed new := hnew
    exact ⟨hfailed.failedOnlyLast, iff_of_true rfl hfailed.exists⟩
  · have hnot : (Stop.fatal c).isBusFailure = false := by
      cases c with
      | busFailure => exact absurd rfl hc
      | _ => rfl
    have hclean : Clean new := by simpa [hnot] using hnew
    exact ⟨hclean.failedOnlyLast, iff_of_false hc hclean.not_exists⟩

theorem execInit_eq {s : State} (h : s.ctl = .uninitialized) : exec .init s = finish (initBody s) :=
  runCmd_admitted (by rw [h]; rfl)

/-- INIT ready: no exchange has failed, and both bytes were read. -/
theorem InitDone.ids_clean {s t : State} {v : Word32} (h : InitDone s v t) (hA : Accounts s (Run.go v t)) :
    ∃ new p q, t.trace = s.trace ++ new ++ [.ctl .idleReady] ∧ Clean new ∧ identified s new p q ∧ goodIds p q := by
  obtain ⟨new, p, q, htrace, hid, hgood⟩ := h.ids
  obtain ⟨all, hall, hclean⟩ := hA
  have heq : all = new ++ [.ctl .idleReady] :=
    List.append_cancel_left (hall.symm.trans (htrace.trans (List.append_assoc _ _ _)))
  have hclean : Clean all := hclean
  exact ⟨new, p, q, htrace, fun e he => hclean e (by simp [heq, he]), hid, hgood⟩

/-- Settles O50: past the oscillator check INIT is one phase, whose three ends are the three outcomes. -/
theorem initIsAllOrFaulted : Obligations.InitIsAllOrFaulted := by
  intro s hctl
  rw [execInit_eq hctl]
  by_cases hosc : s.radio.oscHz = 0
  · have hother {d : FatalCode} (hd : d ≠ .badOscillator) : (s.raiseFatal .badOscillator).fault ≠ d.code :=
      fun h => hd (FatalCode.code_injective (c := .badOscillator) h).symm
    refine .inr (.inl ⟨s.raiseFatal .badOscillator, [], by rw [initBody_badOscillator hosc, finish_fatal], rfl, rfl,
      rfl, (by decide : 2 ≤ FatalCode.badOscillator.code.toNat),
      (by decide : FatalCode.badOscillator.code.toNat ≤ 7), by simp, Clean.nil.failedOnlyLast,
      iff_of_false (hother (d := .busFailure) (by decide)) Clean.nil.not_exists, iff_of_true rfl hosc,
      fun h => absurd h (hother (d := .freqWordOverflow) (by decide)),
      fun h => absurd h (hother (d := .paTableLength) (by decide)),
      fun h => absurd h (hother (d := .invalidModulation) (by decide)),
      fun h => absurd h (hother (d := .verifyFail) (by decide))⟩)
  · obtain ⟨hM, hA⟩ := initBody_phase hosc
    rcases hr : initBody s with ⟨v, t⟩ | ⟨e | c | _, u⟩ <;> rw [hr] at hM hA
    · obtain ⟨new, p, q, htrace, hclean, hid, hgood⟩ := hM.ids_clean hA
      exact .inl ⟨t.complete true v, new, p, q, rfl, rfl, hM.res, hM.ctl, hM.fault, hM.osc,
        by simp [State.frqv, hM.carrier], htrace, hclean, hosc, hM.wordFits, hM.tableFits, hM.modulationFits, hid,
        hgood⟩
    · obtain h | ⟨c, h, -⟩ := hM <;> cases h
    · obtain h | ⟨c, h, hcause⟩ := hM <;> cases h
      obtain ⟨new, htrace, hlast, hbus⟩ := hA.of_fatal
      obtain ⟨hlow, hhigh⟩ := hcause.code_range
      have hcode {d : FatalCode} (h : c.code = d.code) : InitCause s u d := FatalCode.code_injective h ▸ hcause
      refine .inr (.inl ⟨u.raiseFatal c, new, rfl, rfl, rfl, rfl, hlow, hhigh, by rw [raiseFatal_trace, htrace], hlast,
        ⟨fun h => hbus.mp (FatalCode.code_injective (d := .busFailure) h), fun h => by rw [hbus.mpr h]; rfl⟩,
        iff_of_false (fun h => (hcode (d := .badOscillator) h).elim) hosc,
        fun h => hcode (d := .freqWordOverflow) h, fun h => hcode (d := .paTableLength) h,
        fun h => hcode (d := .invalidModulation) h, fun h => ?_⟩)
      obtain ⟨hword, htable, hmod, new', p, q, htrace', hid, hbad⟩ := hcode (d := .verifyFail) h
      cases List.append_cancel_left (htrace.symm.trans htrace')
      exact ⟨hword, htable, hmod, p, q, hid, hbad⟩
    · exact .inr (.inr ⟨rfl, hosc⟩)

end Sys2Proof.Machine
end

section
/-! SUPPORT. The state after reset (10_state.md R45, 70_reset_and_hazards.md R350, R352). -/

namespace Sys2Proof.Machine

/-- The staging buffer is zero after reset (R45). -/
theorem resetDev_paBuf (k : Nat) (h : k < 8) : resetDev.paBuf[k] = 0 := by interval_cases k <;> rfl

/-- The reset value of `CFG_EDGE` is not the reserved policy (R29, R45). -/
theorem resetRadio_edge_ne : resetRadio.edge ≠ 3 := by decide

/-- Power-on with a well-formed configuration starts in the invariant, whatever the environment has decided. -/
theorem resetOf_inv {c : Config} (hwf : c.wf = true) (e : Env) : (State.resetOf c e).Inv where
  cfgWf := hwf
  stable := .inl rfl
  faultIff := iff_of_true rfl CtlState.noConfusion
  faultCode := Nat.zero_le 8
  ready := by rintro (h | h) <;> cases h
  osc := fun h => by cases h
  before := fun _ => ⟨rfl, rfl, rfl⟩
  carrier := fun _ h => by cases h
  edge := resetRadio_edge_ne
  policy := (by decide : (0 : BitVec 2) ≠ 3)
  queue := Nat.zero_le _
  armed := fun h => absurd rfl h
  slots := .inl (resetDev_paBuf 0 (by decide))
  upper := fun k h _ => resetDev_paBuf k h

/-- Settles O10: the constants of `State.resetOf`, the buffer slot by slot. -/
theorem resetLeavesTheStatedValues : Obligations.ResetLeavesTheStatedValues := by
  intro c e
  have hctlWord : (State.resetOf c e).ctlWord = 0 := by
    simp [State.ctlWord, State.oscv, State.frqv, State.nqf, State.resetOf, resetDev, CtlState.code]
  exact ⟨rfl, rfl, rfl, rfl, rfl, rfl, rfl, rfl, rfl, rfl, rfl, resetDev_paBuf, rfl, hctlWord, rfl, rfl, rfl, rfl, rfl⟩

/-- Settles O11: a machine is built exactly from a well-formed configuration, and starts at reset. -/
theorem resetSatisfiesTheInvariant : Obligations.ResetSatisfiesTheInvariant := by
  have hsuggested : Config.suggested.wf = true := by decide
  refine ⟨resetOf_inv hsuggested emptyEnv, fun c hwf => ?_, fun c hwf => ?_⟩
  · exact ⟨State.resetOf c emptyEnv, if_pos hwf, resetOf_inv hwf emptyEnv⟩
  · exact if_neg (by simp [hwf])

end Sys2Proof.Machine
end

section
/-! SUPPORT. The elementary writes of the block (10_state.md R23 to R41): a procedure is a sequence of them, each of
one piece of state. What a sequence leaves unchanged is proved once, and so is what it keeps of the invariant. -/

namespace Sys2Proof.Machine

variable {α β : Type} {W : Piece → Prop} {s t u : State}

/-! ### The pieces of state and the writes -/

/-- The pieces of state that have writers of their own, and two of the environment's. -/
inductive Piece where
  /-- The `CFG_*` registers (R23 to R30). -/
  | radio
  /-- `ST_OSC_HZ` (R31). -/
  | osc
  /-- `ST_FREQ_HZ` (R32). -/
  | freq
  /-- `ST_PASEL` and `PA_BUF` (R33, R34). -/
  | pa
  /-- `CTL_STATE.STATE`, moved to the given state other than by a fatal fault (R35). -/
  | ctl (c : CtlState)
  /-- `FAULT` (R36). -/
  | fault
  /-- `RES` and `ok` (R37, R41). -/
  | result
  /-- `IRQ_ARMED` and its policy (R38, R319). -/
  | irq
  /-- `NQ` (R38). -/
  | nq
  /-- The levels of the data-in line still to be read (R253). -/
  | levels
  /-- The choices for an UPDATE that waits (R263). -/
  | waits

/-- The piece is the same in both states; of the controller, that it was not moved to the given state. -/
def Piece.Kept (s t : State) : Piece → Prop
  | .radio => t.radio = s.radio
  | .osc => t.dev.oscHz = s.dev.oscHz
  | .freq => t.dev.freqHz = s.dev.freqHz
  | .pa => t.dev.paSel = s.dev.paSel ∧ t.dev.paBuf = s.dev.paBuf
  | .ctl c => t.ctl = c → s.ctl = c
  | .fault => t.fault = s.fault
  | .result => t.res = s.res ∧ t.ok = s.ok
  | .irq => t.irqArmed = s.irqArmed ∧ t.irqPolicy = s.irqPolicy
  | .nq => t.nq = s.nq
  | .levels => t.env.levels = s.env.levels
  | .waits => t.env.waits = s.env.waits

/-- `t` is reached from `s` by the writes that the block's procedures make, to pieces in `W` only. -/
inductive Wrote (W : Piece → Prop) : State → State → Prop
  | traffic {s t : State} (h : TrafficOnly s t) : Wrote W s t
  | trans {s t u : State} (h : Wrote W s t) (k : Wrote W t u) : Wrote W s u
  | events (s : State) (es : List Event) : Wrote W s { s with trace := s.trace ++ es }
  | radio (s : State) {idx : CsrIdx} {v : Word32} (hw : W .radio) (hcheck : csrWriteCheck idx v = none) :
      Wrote W s (s.setRadio (radioWrite s.radio idx v))
  | osc (s : State) {v : Word32} (hw : W .osc) (hv : v ≠ 0) : Wrote W s (s.setOsc v)
  | freq (s : State) (hz : Nat) (hw : W .freq) : Wrote W s (s.setFreq (BitVec.ofNat 32 (clampHz hz)))
  | pa (s : State) (f : Word32) (dbm : Byte) (hw : W .pa) : Wrote W s (s.staged f dbm)
  | ctl (s : State) {c : CtlState} (hw : W (.ctl c)) : Wrote W s (s.setCtl c)
  | arm (s : State) (hw : W .irq) : Wrote W s (s.arm s.radio.edge)
  /-- An entry is taken, or an armed interrupt posts one. -/
  | nq (s : State) {n : Nat} (hw : W .nq) (hn : n ≤ s.nq ∨ s.irqArmed = true ∧ n ≤ queueDepth) : Wrote W s (s.setNq n)
  | levels (s : State) (ls : List Bool) (n : Nat) (hw : W .levels) :
      Wrote W s (s.setEnv { s.env with levels := ls, fresh := n })
  | waits (s : State) (hw : W .waits) : Wrote W s (s.setEnv s.env.afterWait)

theorem Wrote.refl (s : State) : Wrote W s s := .traffic (TrafficOnly.refl s)

theorem Wrote.emit (s : State) (e : Event) : Wrote W s (s.emit e) := .events s [e]

/-! ### What writes leave unchanged -/

theorem Piece.Kept.trans {p : Piece} (h : p.Kept s t) (k : p.Kept t u) : p.Kept s u := by
  cases p with
  | ctl c => exact fun hc => h (k hc)
  | pa => exact ⟨k.1.trans h.1, k.2.trans h.2⟩
  | result => exact ⟨k.1.trans h.1, k.2.trans h.2⟩
  | irq => exact ⟨k.1.trans h.1, k.2.trans h.2⟩
  | _ => exact Eq.trans k h

/-- Bus traffic writes no piece. -/
theorem TrafficOnly.kept (h : TrafficOnly s t) (p : Piece) : p.Kept s t := by
  cases p with
  | radio => exact h.radio
  | osc => exact congrArg DevState.oscHz h.dev
  | freq => exact congrArg DevState.freqHz h.dev
  | pa => exact ⟨congrArg DevState.paSel h.dev, congrArg DevState.paBuf h.dev⟩
  | ctl c => exact fun hc => h.ctl.symm.trans hc
  | fault => exact h.fault
  | result => exact ⟨h.res, h.ok⟩
  | irq => exact ⟨h.irqArmed, h.irqPolicy⟩
  | nq => exact h.nq
  | levels => exact h.levels
  | waits => exact h.waits

/-- A piece that is not in `W` is unchanged: every elementary write is of its own piece. -/
theorem Wrote.kept (h : Wrote W s t) {p : Piece} (hp : ¬ W p) : p.Kept s t := by
  induction h with
  | traffic h => exact h.kept p
  | trans _ _ h k => exact h.trans k
  | ctl s hw =>
    cases p with
    | ctl c => rintro rfl; exact absurd hw hp
    | _ => simp [Piece.Kept]
  | _ => cases p <;> simp_all [Piece.Kept, State.staged, Env.afterWait]

/-- What no procedure writes: the parameters, `FAULT`, the result and the presented inputs. They change at the end of
a command or between commands. -/
structure Untouched (s t : State) : Prop where
  cfg : t.cfg = s.cfg
  fault : t.fault = s.fault
  res : t.res = s.res
  ok : t.ok = s.ok
  inputs : t.env.inputs = s.env.inputs

theorem Wrote.untouched (h : Wrote W s t) : Untouched s t := by
  induction h with
  | traffic h => exact ⟨h.cfg, h.fault, h.res, h.ok, h.inputs⟩
  | trans _ _ h k =>
    exact ⟨k.cfg.trans h.cfg, k.fault.trans h.fault, k.res.trans h.res, k.ok.trans h.ok, k.inputs.trans h.inputs⟩
  | _ => exact ⟨rfl, rfl, rfl, rfl, rfl⟩

/-! ### Procedures -/

/-- The procedure writes pieces in `W` only, however it ends, and raises a fatal fault only if `W` has `FAULT`. -/
def Writes (W : Piece → Prop) (s : State) (r : Run α) : Prop :=
  r.Meets (fun _ u => Wrote W s u) (fun w u => Wrote W s u ∧ ∀ c, w = .fatal c → W .fault)

theorem Writes.go {a : α} (h : Wrote W s u) : Writes W s (Run.go a u) := h

theorem Writes.fail (h : Wrote W s u) (e : LocalError) : Writes W s (Run.stop (.fail e) u : Run α) :=
  ⟨h, fun _ hc => by cases hc⟩

theorem Writes.fatal (h : Wrote W s u) (hw : W .fault) (c : FatalCode) : Writes W s (Run.stop (.fatal c) u : Run α) :=
  ⟨h, fun _ _ => hw⟩

/-- Writes before a procedure. -/
theorem Writes.after {r : Run α} (h : Wrote W s u) (hr : Writes W u r) : Writes W s r :=
  hr.mono (fun _ _ => h.trans) fun _ _ hstop => ⟨h.trans hstop.1, hstop.2⟩

theorem Writes.bind {r : Run α} {f : α → State → Run β} (h : Writes W s r) (hf : ∀ a u, Writes W u (f a u)) :
    Writes W s (r.bind f) := Run.Meets.bind h fun a u hu => (hf a u).after hu

/-- INIT's lifting needs `FAULT` (R256). -/
theorem Writes.fatalOnFail {r : Run α} (h : Writes W s r) (hw : W .fault) : Writes W s r.fatalOnFail := by
  rcases r with ⟨a, u⟩ | ⟨e | c | _, u⟩
  · exact h
  · exact Writes.fatal h.1 hw _
  · exact h
  · exact h

/-- A procedure that only sends writes nothing. -/
theorem Sends.writes {k : Nat} {r : Run α} (h : Sends k s r) : Writes W s r :=
  h.meets.mono (fun _ _ hu => .traffic hu.traffic) fun _ _ hu =>
    ⟨.traffic hu.traffic, fun c hc => by rw [hu.stop] at hc; cases hc⟩

theorem Writes.state {r : Run α} (h : Writes W s r) : Wrote W s r.state := by
  cases r with
  | go a u => exact h
  | stop w u => exact h.1

end Sys2Proof.Machine
end

section
/-! SUPPORT. The writes of each command's pseudocode, and how an instruction ends: it completes, it is a bus primitive,
or it enters a fatal fault (10_state.md R23 to R41, 48_config_access.md R302, 60_exceptions.md R313, R322). -/

namespace Sys2Proof.Machine

variable {α β : Type} {W : Piece → Prop} {s t u : State}

/-! ### The commands but INIT -/

theorem cfgwBody_writes (hw : W .radio) (idx : CsrIdx) (v : Word32) : Writes W s (cfgwBody idx v s) := by
  unfold cfgwBody
  split
  · exact .fail (.refl s) _
  · rename_i hcheck
    exact .go (.radio s hw hcheck)

theorem cfgrBody_writes (idx : CsrIdx) : Writes W s (cfgrBody idx s) := .go (.refl s)

theorem wrregBody_writes (a : Addr) (v : Byte) : Writes W s (wrregBody a v s) := by
  cases hcheck : writeCheck a with
  | some e => rw [wrregBody_rejected hcheck]; exact .fail (.refl s) e
  | none => exact (wrregBody_sends hcheck v s).writes

theorem wrburstBody_writes (a : Addr) (n : Byte) : Writes W s (wrburstBody a n s) := by
  cases hcheck : burstCheck a n 8 with
  | some e => rw [wrburstBody_rejected hcheck]; exact .fail (.refl s) e
  | none => exact (wrburstBody_sends hcheck s).writes

theorem rdburstBody_writes (a : Addr) (n : Byte) : Writes W s (rdburstBody a n s) := by
  cases hcheck : burstCheck a n 255 with
  | some e => rw [rdburstBody_rejected hcheck]; exact .fail (.refl s) e
  | none => exact (rdburstBody_sends hcheck s).writes

theorem setfreqBody_writes (hw : W .freq) (hf : W .fault) (hz : Word32) : Writes W s (setfreqBody hz s) := by
  cases hword : freqOverflow (encFreq (clampHz hz.toNat) s.oscNat) with
  | true => rw [setfreqBody_overflow hword]; exact .fatal (.refl s) hf _
  | false =>
    rw [setfreqBody_fits hword]
    exact (freqWrites_sends _ s).writes.bind fun _ u => .go (.freq u _ hw)

theorem setpwrBody_writes (hw : W .pa) (hf : W .fault) (dbm : Byte) : Writes W s (setpwrBody dbm s) := by
  cases hfreq : s.dev.freqHz with
  | none => rw [setpwrBody_unset hfreq]; exact .fatal (.refl s) hf _
  | some f =>
    by_cases hl : paTableFits s.cfg f
    · exact .after (.pa s f dbm hw) (setpwrBody_sends hfreq hl).writes
    · rw [setpwrBody_badTable hfreq hl]; exact .fatal (.refl s) hf _

theorem setmodBody_writes (hf : W .fault) : Writes W s (setmodBody s) := by
  cases hm : modReserved (modField s.radio.modem) with
  | true => rw [setmodBody_reserved hm]; exact .fatal (.refl s) hf _
  | false => exact (setmodBody_sends hm).writes

theorem takeNotification_wrote (hw : W .nq) : Wrote W s s.takeNotification := .nq s hw (.inl (Nat.sub_le _ 1))

/-- Only an armed interrupt posts (R319, R321). -/
theorem post_wrote (hw : W .nq) (harmed : s.irqArmed = true) : Wrote W s s.post := by
  unfold State.post
  split
  · rename_i hroom
    exact .nq s hw (.inr ⟨harmed, hroom⟩)
  · exact .refl s

theorem interrupt_wrote (hw : W .nq) (e : Edge) : Wrote W s (s.interrupt e) := by
  unfold State.interrupt
  split
  · rename_i hedge
    exact post_wrote hw hedge.1
  · exact .refl s

theorem updateBody_writes (hn : W .nq) (hw : W .waits) : Writes W s (updateBody s) := by
  unfold updateBody
  split
  · exact .go (takeNotification_wrote hn)
  · split
    · rename_i harmed
      split
      · exact .go (((Wrote.waits s hw).trans (post_wrote hn harmed)).trans (takeNotification_wrote hn))
      · exact .fail (.waits s hw) _
    · exact .fail (.refl s) _

theorem rxAttempt_writes (hw : W (.ctl .receiving)) (k t : Nat) : Writes W s (rxAttempt k t s) := by
  induction k generalizing t s with
  | zero =>
    refine (busStrobe_sends _ s).writes.bind fun _ u => ?_
    split
    · exact .go (.ctl u hw)
    · exact .fail (.emit u _) _
  | succ k ih =>
    refine (busStrobe_sends _ s).writes.bind fun _ u => ?_
    split
    · exact .go (.ctl u hw)
    · exact .after (.emit u _) (ih _)

theorem beginrxBody_writes (hi : W .irq) (hw : W (.ctl .receiving)) : Writes W s (beginrxBody s) :=
  .after (((Wrote.emit _ _).trans (.emit _ _)).trans (.arm _ hi)) (rxAttempt_writes hw _ _)

/-! ### INIT -/

theorem waitLevels_writes (hw : W .levels) (ls : List Bool) : Writes W s (waitLevels ls s) := by
  induction ls generalizing s with
  | nil =>
    have hread : Wrote W s (s.setEnv { s.env with levels := [], fresh := s.env.fresh + 1 }) := .levels s _ _ hw
    unfold waitLevels
    dsimp only
    cases Config.freeReadyAfter s.env.fresh with
    | none => exact ⟨hread, fun _ hc => by cases hc⟩
    | some k => exact .go ((hread.trans (.events _ _)).trans (.events _ _))
  | cons l rest ih =>
    have hread : Wrote W s ((s.setEnv { s.env with levels := rest }).emit (.line (.dataInRead l))) :=
      (Wrote.levels s rest s.env.fresh hw).trans (.emit _ _)
    unfold waitLevels
    cases l with
    | true => exact .after hread ih
    | false => exact .go hread

theorem pulsed_wrote (s : State) : Wrote W s s.pulsed :=
  ((((Wrote.emit _ _).trans (.emit _ _)).trans (.emit _ _)).trans (.emit _ _)).trans (.emit _ _)

theorem resetSeq_writes (hw : W .levels) (hf : W .fault) : Writes W s (resetSeq s) :=
  .after (pulsed_wrote s) <| (waitLevels_writes hw _).bind fun _ u =>
    ((busStrobe_sends _ u).writes.fatalOnFail hf).bind fun _ _ => waitLevels_writes hw _

theorem writeAll_writes (hf : W .fault) (ws : List (Addr × Byte)) : Writes W s (writeAll ws s) := by
  induction ws generalizing s with
  | nil => exact .go (.refl s)
  | cons w ws ih => exact ((busWrite1_sends _ _ s).writes.fatalOnFail hf).bind fun _ _ => ih

/-- A SET command's procedure run as a part of INIT. -/
theorem sub_writes {body : State → Run Word32} (hf : W .fault) (h : Writes W s (body s)) : Writes W s (sub body s) :=
  (h.fatalOnFail hf).bind fun _ u => .go (.refl u)

theorem devStep_writes (hf : W .fault) : Writes W s (devStep s) := by
  unfold devStep
  split
  · exact .go (.refl s)
  · exact sub_writes hf (setdevBody_sends _ s).writes

theorem loadConfig_writes (hfreq : W .freq) (hpa : W .pa) (hf : W .fault) : Writes W s (loadConfig s) :=
  (writeAll_writes hf _).bind fun _ _ => (writeAll_writes hf _).bind fun _ _ =>
  (sub_writes hf (setfreqBody_writes hfreq hf _)).bind fun _ s3 =>
  (sub_writes hf (setbwBody_sends _ s3).writes).bind fun _ _ => (devStep_writes hf).bind fun _ _ =>
  (sub_writes hf (setpwrBody_writes hpa hf _)).bind fun _ _ =>
  (sub_writes hf (setmodBody_writes hf)).bind fun _ _ => writeAll_writes hf _

theorem verify_writes (hf : W .fault) (hw : W (.ctl .idleReady)) : Writes W s (verify s) := by
  refine ((busRead1_sends _ s).writes.fatalOnFail hf).bind fun p u =>
    ((busRead1_sends _ u).writes.fatalOnFail hf).bind fun v x => ?_
  split
  · exact .fatal (.refl x) hf _
  · exact .go (.ctl x hw)

theorem initBody_writes (hosc : W .osc) (hfreq : W .freq) (hpa : W .pa) (hf : W .fault) (hl : W .levels)
    (hctl : ∀ c, c ≠ .receiving → W (.ctl c)) : Writes W s (initBody s) := by
  by_cases hzero : s.radio.oscHz = 0
  · rw [initBody_badOscillator hzero]
    exact .fatal (.refl s) hf _
  · rw [initBody, if_neg hzero]
    refine .after ((Wrote.osc s hosc hzero).trans (.ctl _ (hctl .resetting CtlState.noConfusion))) ?_
    refine (resetSeq_writes hl hf).bind fun _ s1 => ?_
    refine .after (.ctl s1 (hctl .configLoading CtlState.noConfusion)) ?_
    refine (loadConfig_writes hfreq hpa hf).bind fun _ s2 => ?_
    exact .after (.ctl s2 (hctl .verifying CtlState.noConfusion))
      (verify_writes hf (hctl .idleReady CtlState.noConfusion))

/-! ### How an instruction ends -/

/-- How an instruction ends that writes pieces in `W` only. -/
inductive Ends (W : Piece → Prop) (s : State) : State → Prop
  /-- A bus primitive completes nothing (R95). -/
  | primitive {u : State} (h : Wrote W s u) : Ends W s u
  /-- A command completes, a refused one among them (R11, R317). -/
  | completed {u : State} (h : Wrote W s u) (hr : W .result) (ok : Bool) (v : Word32) : Ends W s (u.complete ok v)
  /-- A fatal fault is entered (R313). -/
  | faulted {u : State} (h : Wrote W s u) (hr : W .result) (hf : W .fault) (c : FatalCode) : Ends W s (u.raiseFatal c)

theorem Ends.refused (hr : W .result) : Ends W s s.refuse := .completed (.refl s) hr _ _

/-- A command's procedure, run to its end. -/
theorem Writes.finish_ends {r : Run Word32} (h : Writes W s r) (hr : W .result) (hnext : finish r = .next t) :
    Ends W s t := by
  rcases finish_eq_next hnext with ⟨v, u, rfl, rfl⟩ | ⟨e, u, rfl, rfl⟩ | ⟨c, u, rfl, rfl⟩
  · exact .completed h hr true v
  · exact .completed h.1 hr false _
  · exact .faulted h.1 hr (h.2 c rfl) c

theorem Writes.runCmd_ends {g : CmdGroup} {body : State → Run Word32} (h : Writes W s (body s)) (hr : W .result)
    (hnext : runCmd g body s = .next t) : Ends W s t := by
  rcases runCmd_eq_next hnext with ⟨-, rfl⟩ | ⟨-, hfinish⟩
  · exact .refused hr
  · exact h.finish_ends hr hfinish

theorem runReserved_ends (hr : W .result) (hf : W .fault) (hnext : runReserved s = .next t) : Ends W s t := by
  by_cases hctl : s.ctl = .faulted
  · rw [runReserved_refused hctl] at hnext
    cases hnext
    exact .refused hr
  · rw [runReserved_fatal hctl] at hnext
    cases hnext
    exact .faulted (.refl s) hr hf _

/-- A bus header row leaves the state of its primitive. -/
theorem Sends.primitive_ends {k : Nat} {r : Run α} (h : Sends k s r)
    (hnext : (.next r.state : Host.Outcome State Fault Refusal) = .next t) : Ends W s t := by
  cases hnext
  exact .primitive h.writes.state

/-- The instructions that may write a piece (R23 to R41). -/
def Piece.Writer (i : Instr) : Piece → Prop
  | .radio => ∃ idx v, i = .cfgw idx v
  | .osc => i = .init
  | .freq => i = .init ∨ ∃ hz, i = .setfreq hz
  | .pa => i = .init ∨ ∃ p, i = .setpwr p
  | .ctl c => i = .init ∧ c ≠ .receiving ∨ i = .beginrx ∧ c = .receiving
  | .fault => i = .init ∨ (∃ hz, i = .setfreq hz) ∨ (∃ p, i = .setpwr p) ∨ i = .setmod ∨
      i = .reserved0 ∨ i = .reservedE ∨ i = .reservedF
  | .result => isCommand i = true
  | .irq => i = .beginrx
  | .nq => i = .update
  | .levels => i = .init
  | .waits => i = .update

theorem execHdrReadN_ends {a : Addr} {n : Byte} (hnext : execHdrReadN a n s = .next t) : Ends W s t := by
  unfold execHdrReadN at hnext
  split at hnext
  · exact (busRead1_sends a s).primitive_ends hnext
  · exact (busReadN_sends a n.toNat s).primitive_ends hnext

/-- Every instruction writes the pieces it is a writer of, and no other. -/
theorem exec_ends {i : Instr} (h : exec i s = .next t) : Ends (·.Writer i) s t := by
  cases i with
  | cfgw idx v => exact Writes.runCmd_ends (cfgwBody_writes ⟨idx, v, rfl⟩ idx v) rfl h
  | cfgr idx => exact Writes.runCmd_ends (g := .cfgr) (cfgrBody_writes idx) rfl h
  | setfreq hz =>
    exact Writes.runCmd_ends (setfreqBody_writes (.inr ⟨hz, rfl⟩) (.inr (.inl ⟨hz, rfl⟩)) hz) rfl h
  | setbw hz => exact (setbwBody_sends hz s).writes.runCmd_ends rfl h
  | setdev hz => exact (setdevBody_sends hz s).writes.runCmd_ends rfl h
  | setpwr dbm =>
    exact Writes.runCmd_ends (setpwrBody_writes (.inr ⟨dbm, rfl⟩) (.inr (.inr (.inl ⟨dbm, rfl⟩))) dbm) rfl h
  | setmod => exact Writes.runCmd_ends (setmodBody_writes (by simp [Piece.Writer])) rfl h
  | wrreg a v => exact (wrregBody_writes a v).runCmd_ends rfl h
  | rdreg a => exact (rdregBody_sends a s).writes.runCmd_ends rfl h
  | wrburst a n => exact (wrburstBody_writes a n).runCmd_ends rfl h
  | rdburst a n => exact (rdburstBody_writes a n).runCmd_ends rfl h
  | interpW status => exact (interpBody_sends status .write s).writes.runCmd_ends rfl h
  | interpR status => exact (interpBody_sends status .read s).writes.runCmd_ends rfl h
  | init =>
    exact Writes.runCmd_ends (initBody_writes rfl (.inl rfl) (.inl rfl) (.inl rfl) rfl fun _ hc => .inl ⟨rfl, hc⟩) rfl h
  | beginrx => exact Writes.runCmd_ends (beginrxBody_writes rfl (.inr ⟨rfl, rfl⟩)) rfl h
  | update => exact Writes.runCmd_ends (updateBody_writes rfl rfl) rfl h
  | strobe c => exact (strobeBody_sends c s).writes.runCmd_ends rfl h
  | reserved0 => exact runReserved_ends rfl (by simp [Piece.Writer]) h
  | reservedE => exact runReserved_ends rfl (by simp [Piece.Writer]) h
  | reservedF => exact runReserved_ends rfl (by simp [Piece.Writer]) h
  | hdrWrite1 a v => exact (busWrite1_sends a v s).primitive_ends h
  | hdrWriteN a payload => exact (busWriteN_sends a payload s).primitive_ends h
  | hdrRead1 a => exact (busRead1_sends a s).primitive_ends h
  | hdrReadN a n => exact execHdrReadN_ends h

/-- The parameters and the presented inputs are the same at the end. -/
theorem Ends.cfg_inputs (h : Ends W s t) : t.cfg = s.cfg ∧ t.env.inputs = s.env.inputs := by
  cases h with
  | primitive h => exact ⟨h.untouched.cfg, h.untouched.inputs⟩
  | completed h => exact ⟨h.untouched.cfg, h.untouched.inputs⟩
  | faulted h => exact ⟨h.untouched.cfg, h.untouched.inputs⟩

/-- A piece that is not in `W` is the same at the end; for the controller, a fatal fault must be excluded too. -/
theorem Ends.kept (h : Ends W s t) {p : Piece} (hp : ¬ W p) (hctl : ∀ c, p = .ctl c → ¬ W .fault) : p.Kept s t := by
  cases h with
  | primitive h => exact h.kept hp
  | completed h hr ok v =>
    have hkept := h.kept hp
    cases p with
    | result => exact absurd hr hp
    | _ => exact hkept
  | faulted h hr hf c =>
    have hkept := h.kept hp
    cases p with
    | result => exact absurd hr hp
    | fault => exact absurd hf hp
    | ctl c => exact absurd hf (hctl c rfl)
    | _ => exact hkept

/-- A piece that changed is in `W`; the controller's move is told by `Ends.moved`. -/
theorem Ends.writes_of_not_kept (h : Ends W s t) {p : Piece} (hne : ¬ p.Kept s t) (hctl : ∀ c, p ≠ .ctl c) : W p := by
  by_contra hp
  exact hne (h.kept hp fun c hc => absurd hc (hctl c))

/-- A controller that moved was moved by a fatal fault, or to where it stands. -/
theorem Ends.moved (h : Ends W s t) (hne : t.ctl ≠ s.ctl) : W .fault ∨ W (.ctl t.ctl) := by
  by_contra hno
  rw [not_or] at hno
  exact hne (h.kept hno.2 (fun _ _ => hno.1) rfl).symm

/-- Settles O16: what changed has one of its writers. -/
theorem eachRegisterHasItsWriters : Obligations.EachRegisterHasItsWriters := by
  intro i s t hexec
  have hends := exec_ends hexec
  have hwriter {p : Piece} (hctl : ∀ c, p ≠ .ctl c) (hne : ¬ p.Kept s t) : p.Writer i :=
    hends.writes_of_not_kept hne hctl
  obtain ⟨hcfg, hinputs⟩ := hends.cfg_inputs
  refine ⟨hcfg, hwriter (p := .radio) nofun, hwriter (p := .osc) nofun, hwriter (p := .freq) nofun, fun hne => ?_,
    hwriter (p := .fault) nofun, fun hne => ?_, fun hne => ?_, fun hne => ?_, hwriter (p := .nq) nofun,
    hwriter (p := .levels) nofun, hwriter (p := .waits) nofun, hinputs⟩
  · exact hwriter (p := .pa) nofun (not_and_or.mpr hne)
  · rcases hends.moved hne with (hinit | hfault) | (⟨hinit, -⟩ | ⟨hbegin, -⟩)
    · exact .inl hinit
    · exact .inr (.inr hfault)
    · exact .inl hinit
    · exact .inr (.inl hbegin)
  · exact hwriter (p := .result) nofun (not_and_or.mpr hne)
  · exact hwriter (p := .irq) nofun (not_and_or.mpr hne)

end Sys2Proof.Machine
end

section
/-! SUPPORT. The invariant of the block in two parts: what every single write keeps, INIT's transient states included,
and what the controller and `FAULT` say between commands (10_state.md R29 to R38, 60_exceptions.md R313 to R321). -/

namespace Sys2Proof.Machine

variable {W : Piece → Prop} {s t u : State}

/-! ### What every write keeps -/

/-- The clauses of the invariant that do not name the controller; they hold inside a command too. -/
structure State.Lasting (s : State) : Prop where
  cfgWf : s.cfg.wf = true
  osc : s.dev.oscHz ≠ some 0
  carrier : ∀ f, s.dev.freqHz = some f → 300000000 ≤ f.toNat ∧ f.toNat ≤ 928000000
  edge : s.radio.edge ≠ 3
  policy : s.irqPolicy ≠ 3
  queue : s.nq ≤ queueDepth
  armed : s.nq ≠ 0 → s.irqArmed = true
  slots : s.dev.paBuf[0] = 0 ∨ s.dev.paBuf[1] = 0
  upper : ∀ k (h : k < 8), 2 ≤ k → s.dev.paBuf[k] = 0

theorem State.Inv.lasting (h : s.Inv) : s.Lasting :=
  ⟨h.cfgWf, h.osc, h.carrier, h.edge, h.policy, h.queue, h.armed, h.slots, h.upper⟩

/-- CFGW refuses the reserved edge policy (R29, R300). -/
theorem radioWrite_edge_ne {r : RadioConfig} {idx : CsrIdx} {v : Word32} (hcheck : csrWriteCheck idx v = none)
    (h : r.edge ≠ 3) : (radioWrite r idx v).edge ≠ 3 := by
  by_cases hidx : idx = 7
  · subst hidx
    have hlow : v.extractLsb' 0 2 ≠ 3#2 := by
      intro hlow
      simp [csrWriteCheck, hlow] at hcheck
    rwa [← BitVec.setWidth_eq_extractLsb' (by decide)] at hlow
  · have hidx : idx.toNat ≠ 7 := fun hn => hidx (BitVec.eq_of_toNat_eq hn)
    unfold radioWrite
    split
    case h_8 h7 => exact absurd h7 hidx
    all_goals exact h

/-- A recorded carrier is a clamped one (R121). -/
theorem clampHz_range (f : Nat) : 300000000 ≤ clampHz f ∧ clampHz f ≤ 928000000 := by
  simp only [clampHz, freqMinHz, freqMaxHz]
  omega

/-- One of SETPWR's two slots is zero (R185). -/
theorem paSlots_zero (modem v : Byte) : (paSlots modem v).1 = 0 ∨ (paSlots modem v).2 = 0 := by
  unfold paSlots
  split
  · exact .inl rfl
  · exact .inr rfl

/-- SETPWR writes the first two slots only (R185). -/
theorem staged_paBuf_upper (s : State) (f : Word32) (dbm : Byte) {k : Nat} (h : k < 8) (h2 : 2 ≤ k) :
    (s.staged f dbm).dev.paBuf[k] = s.dev.paBuf[k] := by
  simp only [State.staged, stagePa_dev]
  rw [Vector.getElem_set_ne _ _ (by omega), Vector.getElem_set_ne _ _ (by omega)]

theorem State.Lasting.traffic (h : s.Lasting) (ht : TrafficOnly s t) : t.Lasting where
  cfgWf := ht.cfg ▸ h.cfgWf
  osc := ht.dev ▸ h.osc
  carrier := ht.dev ▸ h.carrier
  edge := ht.radio ▸ h.edge
  policy := ht.irqPolicy ▸ h.policy
  queue := ht.nq ▸ h.queue
  armed := ht.nq ▸ ht.irqArmed ▸ h.armed
  slots := ht.dev ▸ h.slots
  upper := ht.dev ▸ h.upper

/-- SETPWR's staging keeps the shape of the buffer (R185). -/
theorem State.Lasting.staged (h : s.Lasting) (f : Word32) (dbm : Byte) : (s.staged f dbm).Lasting :=
  { h with
    slots := by simpa [State.staged] using paSlots_zero s.radio.modem (paByte s.cfg f dbm)
    upper := fun k hk h2 => (staged_paBuf_upper s f dbm hk h2).trans (h.upper k hk h2) }

/-- Each elementary write keeps them, whatever the controller does. -/
theorem State.Lasting.wrote (h : s.Lasting) (hw : Wrote W s t) : t.Lasting := by
  induction hw with
  | traffic ht => exact h.traffic ht
  | trans _ _ ih ih' => exact ih' (ih h)
  | events s es => exact { h with }
  | radio s hw hcheck => exact { h with edge := radioWrite_edge_ne hcheck h.edge }
  | osc s hw hv => exact { h with osc := fun hz => hv (Option.some.inj hz) }
  | freq s hz hw =>
    have hrange := clampHz_range hz
    rw [← clampHz_toNat] at hrange
    exact { h with carrier := fun f hf => Option.some.inj hf ▸ hrange }
  | pa s f dbm hw => exact h.staged f dbm
  | ctl s hw => exact { h with }
  | arm s hw => exact { h with policy := h.edge, armed := fun _ => rfl }
  | nq s hw hn =>
    rcases hn with hle | ⟨harmed, hle⟩
    · exact { h with queue := hle.trans h.queue, armed := fun hne => h.armed fun h0 => hne (Nat.le_zero.mp (h0 ▸ hle)) }
    · exact { h with queue := hle, armed := fun _ => harmed }
  | levels s ls n hw => exact { h with }
  | waits s hw => exact { h with }

/-! ### What the controller says -/

theorem FatalCode.code_ne_zero (c : FatalCode) : c.code ≠ 0 := by cases c <;> decide

theorem FatalCode.code_le (c : FatalCode) : c.code.toNat ≤ 8 := by cases c <;> decide

/-- Fatal fault entry satisfies the clauses of the controller from any state (R313). -/
theorem State.Lasting.raiseFatal_inv (h : s.Lasting) (c : FatalCode) : (s.raiseFatal c).Inv :=
  { h with
    stable := .inr (.inr (.inr rfl))
    faultIff := iff_of_false c.code_ne_zero fun hne => hne rfl
    faultCode := c.code_le
    ready := by rintro (hctl | hctl) <;> cases hctl
    before := fun hctl => by cases hctl }

/-- The block has been initialised and has no fault (R35, R252). -/
structure State.Operating (s : State) : Prop where
  ctl : s.ctl = .idleReady ∨ s.ctl = .receiving
  fault : s.fault = 0
  oscv : s.oscv = true
  frqv : s.frqv = true

theorem State.Inv.operating (h : s.Inv) (hctl : s.ctl = .idleReady ∨ s.ctl = .receiving) : s.Operating := by
  obtain ⟨hosc, hfreq⟩ := h.ready hctl
  refine ⟨hctl, h.faultIff.mpr ?_, hosc, hfreq⟩
  rcases hctl with hctl | hctl <;> simp [hctl]

theorem State.Lasting.operating_inv (h : s.Lasting) (ho : s.Operating) : s.Inv :=
  { h with
    stable := ho.ctl.elim (fun hctl => .inr (.inl hctl)) fun hctl => .inr (.inr (.inl hctl))
    faultIff := iff_of_true ho.fault (by rcases ho.ctl with hctl | hctl <;> simp [hctl])
    faultCode := by simp [ho.fault]
    ready := fun _ => ⟨ho.oscv, ho.frqv⟩
    before := fun hctl => by rcases ho.ctl with h | h <;> simp [hctl] at h }

/-- The valid flags are never cleared, and a command that moves the controller to Receiving only stays operating. -/
theorem State.Operating.wrote (h : s.Operating) (hw : Wrote W s t) (hctl : ∀ c, W (.ctl c) → c = .receiving) :
    t.Operating := by
  induction hw with
  | @traffic s t ht =>
    refine ⟨ht.ctl ▸ h.ctl, ht.fault ▸ h.fault, ?_, ?_⟩
    · rw [State.oscv, ht.dev]; exact h.oscv
    · rw [State.frqv, ht.dev]; exact h.frqv
  | trans _ _ ih ih' => exact ih' (ih h)
  | osc s hw hv => exact { h with oscv := rfl }
  | freq s hz hw => exact { h with frqv := rfl }
  | ctl s hw => exact { h with ctl := .inr (hctl _ hw) }
  | _ => exact { h with }

/-! ### Commands and steps -/

theorem State.Inv.complete (h : s.Inv) (ok : Bool) (v : Word32) : (s.complete ok v).Inv := { h with }

theorem State.Inv.takeInput (h : s.Inv) : s.takeInput.Inv := { h with }

/-- The pieces that the clauses of the controller name. -/
def Piece.governs : Piece → Bool
  | .osc | .freq | .ctl _ | .fault | .irq => true
  | _ => false

/-- An instruction that writes none of them keeps the invariant, in every controller state. -/
theorem Ends.keeps_inv (h : Ends W s t) (hs : s.Inv) (hW : ∀ p, W p → p.governs = false) : t.Inv := by
  have hfree {p : Piece} (hp : p.governs = true) : ¬ W p := fun hw => by simp [hW p hw] at hp
  have hwrote {u : State} (hu : Wrote W s u) : u.Inv := by
    have hosc : u.dev.oscHz = s.dev.oscHz := hu.kept (hfree (p := .osc) rfl)
    have hfreq : u.dev.freqHz = s.dev.freqHz := hu.kept (hfree (p := .freq) rfl)
    have hctl : u.ctl = s.ctl := (hu.kept (hfree (p := .ctl u.ctl) rfl) rfl).symm
    have hfault : u.fault = s.fault := hu.untouched.fault
    obtain ⟨hirq, -⟩ := hu.kept (hfree (p := .irq) rfl)
    exact { hs.lasting.wrote hu with
      stable := hctl ▸ hs.stable
      faultIff := hctl ▸ hfault ▸ hs.faultIff
      faultCode := hfault ▸ hs.faultCode
      ready := by rw [hctl, State.oscv, State.frqv, hosc, hfreq]; exact hs.ready
      before := by rw [hctl, State.oscv, State.frqv, hosc, hfreq, hirq]; exact hs.before }
  cases h with
  | primitive hu => exact hwrote hu
  | completed hu hr ok v => exact (hwrote hu).complete ok v
  | faulted hu hr hf c => exact absurd hf (hfree (p := .fault) rfl)

/-- A command keeps the invariant when it is admitted in an operating block only and moves the controller to Receiving
only. -/
theorem Writes.runCmd_inv {g : CmdGroup} {body : State → Run Word32} (h : Writes W s (body s)) (hs : s.Inv)
    (hadmits : admits g s.ctl = true → s.ctl = .idleReady ∨ s.ctl = .receiving)
    (hctl : ∀ c, W (.ctl c) → c = .receiving) (hnext : runCmd g body s = .next t) : t.Inv := by
  rcases runCmd_eq_next hnext with ⟨-, rfl⟩ | ⟨hadm, hfinish⟩
  · exact hs.complete _ _
  · have hends {u : State} (hu : Wrote W s u) : u.Inv :=
      (hs.lasting.wrote hu).operating_inv ((hs.operating (hadmits hadm)).wrote hu hctl)
    rcases finish_eq_next hfinish with ⟨v, u, hr, rfl⟩ | ⟨e, u, hr, rfl⟩ | ⟨c, u, hr, rfl⟩ <;> rw [hr] at h
    · exact (hends h).complete _ _
    · exact (hends h.1).complete _ _
    · exact (hs.lasting.wrote h.1).raiseFatal_inv c

theorem admits_radio_iff (c : CtlState) : admits .radio c = true ↔ c = .idleReady ∨ c = .receiving := by
  simp [admits]

/-- INIT ends operating, or by a fatal fault that needs no more than what lasts (R250, R256). -/
theorem execInit_inv (hs : s.Inv) (hnext : execInit s = .next t) : t.Inv := by
  rcases runCmd_eq_next hnext with ⟨-, rfl⟩ | ⟨hadm, hfinish⟩
  · exact hs.complete _ _
  have hwrites : Writes (fun _ => True) s (initBody s) :=
    initBody_writes trivial trivial trivial trivial trivial fun _ _ => trivial
  have hlasting := hs.lasting.wrote hwrites.state
  by_cases hosc : s.radio.oscHz = 0
  · rw [initBody_badOscillator hosc, finish_fatal] at hfinish
    cases hfinish
    exact hs.lasting.raiseFatal_inv _
  have hmeets := (initBody_phase hosc).meets
  rcases finish_eq_next hfinish with ⟨v, u, hr, rfl⟩ | ⟨e, u, hr, rfl⟩ | ⟨c, u, hr, rfl⟩ <;> rw [hr] at hmeets hlasting
  · have hctl : s.ctl = .uninitialized := by simpa [admits] using hadm
    have hfault : s.fault = 0 := hs.faultIff.mpr (by simp [hctl])
    have hoperating : u.Operating :=
      ⟨.inl hmeets.ctl, hmeets.fault.trans hfault, by simp [State.oscv, hmeets.osc],
        by simp [State.frqv, hmeets.carrier]⟩
    exact (hlasting.operating_inv hoperating).complete _ _
  · obtain hhang | ⟨c, hfatal, -⟩ := hmeets
    · cases hhang
    · cases hfatal
  · exact hlasting.raiseFatal_inv c

theorem runReserved_inv (hs : s.Inv) (hnext : runReserved s = .next t) : t.Inv := by
  by_cases hctl : s.ctl = .faulted
  · rw [runReserved_refused hctl] at hnext
    cases hnext
    exact hs.complete _ _
  · rw [runReserved_fatal hctl] at hnext
    cases hnext
    exact hs.lasting.raiseFatal_inv _

/-- Every instruction keeps the invariant. -/
theorem exec_inv {i : Instr} (hs : s.Inv) (h : exec i s = .next t) : t.Inv := by
  have hradio := (admits_radio_iff s.ctl).mp
  cases i with
  | setfreq hz =>
    exact Writes.runCmd_inv (W := (·.Writer (.setfreq hz)))
      (setfreqBody_writes (by simp [Piece.Writer]) (by simp [Piece.Writer]) hz) hs hradio (by simp [Piece.Writer]) h
  | setpwr dbm =>
    exact Writes.runCmd_inv (W := (·.Writer (.setpwr dbm)))
      (setpwrBody_writes (by simp [Piece.Writer]) (by simp [Piece.Writer]) dbm) hs hradio (by simp [Piece.Writer]) h
  | setmod =>
    exact Writes.runCmd_inv (W := (·.Writer .setmod)) (setmodBody_writes (by simp [Piece.Writer])) hs hradio
      (by simp [Piece.Writer]) h
  | beginrx =>
    exact Writes.runCmd_inv (W := (·.Writer .beginrx)) (beginrxBody_writes rfl (.inr ⟨rfl, rfl⟩)) hs
      (fun hadm => .inl (by simpa [admits] using hadm)) (by simp [Piece.Writer]) h
  | init => exact execInit_inv hs h
  | reserved0 => exact runReserved_inv hs h
  | reservedE => exact runReserved_inv hs h
  | reservedF => exact runReserved_inv hs h
  | _ => exact (exec_ends h).keeps_inv hs fun p => by cases p <;> simp [Piece.Writer, Piece.governs]

/-- Settles O12: an instruction, an edge, a power-on and an idle step each keep the invariant. -/
theorem everyStepKeepsTheInvariant : Obligations.EveryStepKeepsTheInvariant := by
  intro s t hs hstep
  unfold step at hstep
  split at hstep
  · cases hstep
    exact hs
  · rename_i e _
    cases hstep
    exact (Ends.primitive (interrupt_wrote (W := (· = .nq)) rfl e)).keeps_inv hs.takeInput (by rintro _ rfl; rfl)
  · cases hstep
    exact resetOf_inv hs.cfgWf _
  · split at hstep
    · exact exec_inv hs.takeInput hstep
    · cases hstep

end Sys2Proof.Machine
end

section
/-! SUPPORT. The header byte of each bus primitive as two control bits above the address (30_encoding.md R95, R96). -/

namespace Sys2Proof

/-- The two control bits beside an address are one byte. -/
theorem header_fields_eq_append (r b : BitVec 1) (a : Addr) :
    (r.setWidth 8 <<< 7) ||| (b.setWidth 8 <<< 6) ||| a.setWidth 8 = (r ++ b ++ a : Byte) := by
  apply BitVec.eq_of_getLsbD_eq
  intro i hi
  change _ = ((r ++ b : BitVec (1 + 1)) ++ a : BitVec (1 + 1 + 6)).getLsbD i
  rw [BitVec.getLsbD_append, BitVec.getLsbD_append]
  interval_cases i <;> simp

theorem hdr_write1 (a : Addr) : hdr 0 0 a = (0#2 ++ a : Byte) :=
  (if_neg (by simp)).trans (header_fields_eq_append 0 0 a)

theorem hdr_writeN (a : Addr) : hdr 0 1 a = (1#2 ++ a : Byte) :=
  (if_neg (by simp)).trans (header_fields_eq_append 0 1 a)

theorem hdr_readN (a : Addr) : hdr 1 1 a = (3#2 ++ a : Byte) :=
  (if_neg (by simp)).trans (header_fields_eq_append 1 1 a)

/-- The header of a status register read has both bits set (R96, decision D18). -/
theorem hdr_read1 (a : Addr) : hdr 1 0 a = ((if isStatus a then 3#2 else 2#2) ++ a : Byte) := by
  cases ha : isStatus a with
  | true => exact (if_pos (by simp [ha])).trans (header_fields_eq_append 1 1 a)
  | false => exact (if_neg (by simp [ha])).trans (header_fields_eq_append 1 0 a)

/-- A header as a number. -/
theorem header_eq_ofNat (c : BitVec 2) (a : Addr) : (c ++ a : Byte) = BitVec.ofNat 8 (c.toNat * 64 + a.toNat) := by
  rw [← header_toNat, BitVec.ofNat_toNat, BitVec.setWidth_eq]

end Sys2Proof

namespace Sys2Proof.Machine

@[simp] theorem hdrBits_append (c : BitVec 2) (a : Addr) : hdrBits (c ++ a : Byte) = c := by
  apply BitVec.eq_of_toNat_eq
  rw [hdrBits, slice_toNat, header_toNat]
  omega

@[simp] theorem hdrAddr_append (c : BitVec 2) (a : Addr) : hdrAddr (c ++ a : Byte) = a := by
  apply BitVec.eq_of_toNat_eq
  rw [hdrAddr, slice_toNat, header_toNat]
  omega

end Sys2Proof.Machine
end

section
/-! SUPPORT. The access checks of the bus access commands (20_memory.md R68, 47_bus_access.md R287). -/

namespace Sys2Proof.Machine

theorem isStatus_eq_true {a : Addr} (h : 0x30 ≤ a.toNat ∧ a.toNat ≤ 0x3D) : isStatus a = true := decide_eq_true h

theorem writeCheck_status {a : Addr} (h : isStatus a = true) : writeCheck a = some .statusWriteRejected := if_pos h

/-- The address is checked before the length (R287). -/
theorem burstCheck_status {a : Addr} (h : isStatus a = true) (n : Byte) (max : Nat) :
    burstCheck a n max = some .burstRejected := if_pos h

theorem burstCheck_length {a : Addr} {n : Byte} {max : Nat} (h : isStatus a = false) (hn : n = 0 ∨ max < n.toNat) :
    burstCheck a n max = some .badLength := by simp only [burstCheck, h, Bool.false_eq_true, if_false, if_pos hn]

theorem writeCheck_eq_none_iff {a : Addr} : writeCheck a = none ↔ isStatus a = false := by simp [writeCheck]

/-- What a burst that passes its check is known of (R68). -/
theorem burstCheck_eq_none_iff {a : Addr} {n : Byte} {max : Nat} :
    burstCheck a n max = none ↔ isStatus a = false ∧ 1 ≤ n.toNat ∧ n.toNat ≤ max := by
  refine ⟨fun h => ?_, fun ⟨ha, h1, hmax⟩ => burstCheck_eq_none ha h1 hmax⟩
  unfold burstCheck at h
  split at h
  · cases h
  · rename_i ha
    split at h
    · cases h
    · rename_i hlength
      exact ⟨by simpa using ha, by bv_omega, by omega⟩

/-- An admitted command that a check stops completes with the check's error and does nothing else (R287, R311). -/
theorem runCmd_rejected {g : CmdGroup} {body : State → Run Word32} {s : State} {e : LocalError}
    (hadm : admits g s.ctl = true) (hbody : body s = .stop (.fail e) s) :
    runCmd g body s = .next { s with ok := false, res := e.code } := by
  rw [runCmd_admitted hadm, hbody, finish_fail]
  rfl

/-- Settles O38: each command's body stops at its check. -/
theorem accessChecksRejectBeforeAnyExchange : Obligations.AccessChecksRejectBeforeAnyExchange := by
  intro s addr v hctl
  have hadm := admits_radio hctl
  refine ⟨fun hrange => ⟨?_, ?_, ?_⟩, fun hrange => ⟨fun hzero => ?_, fun hlength => ?_⟩⟩
  · exact runCmd_rejected hadm (wrregBody_rejected (writeCheck_status (isStatus_eq_true hrange)) v s)
  · exact runCmd_rejected hadm (wrburstBody_rejected (burstCheck_status (isStatus_eq_true hrange) v 8) s)
  · exact runCmd_rejected hadm (rdburstBody_rejected (burstCheck_status (isStatus_eq_true hrange) v 255) s)
  · exact runCmd_rejected hadm (rdburstBody_rejected (burstCheck_length (isStatus_eq_false hrange) (.inl hzero)) s)
  · exact runCmd_rejected hadm (wrburstBody_rejected (burstCheck_length (isStatus_eq_false hrange) hlength) s)

end Sys2Proof.Machine
end

section
/-! SUPPORT. The bus header rows: each is one exchange with its header byte and the interpretation of its status byte
(20_memory.md R62 to R67, 30_encoding.md R96). -/

namespace Sys2Proof.Machine

variable {s : State} {a : Answer} {rest : List Answer}

/-! ### What each row sends -/

theorem exec_hdrWrite1 (addr : Addr) (v : Byte) (s : State) :
    exec (.hdrWrite1 addr v) s =
      .next (interpreted .write (exchange .write1 (BitVec.ofNat 8 addr.toNat) [v] 0 s)).state := by
  have hheader : hdr 0 0 addr = BitVec.ofNat 8 addr.toNat := by
    rw [hdr_write1, header_eq_ofNat]
    exact congrArg (BitVec.ofNat 8) (Nat.zero_add _)
  rw [← hheader]
  rfl

theorem exec_hdrWriteN (addr : Addr) (payload : List Byte) (s : State) :
    exec (.hdrWriteN addr payload) s =
      .next (interpreted .write (exchange .writeN (BitVec.ofNat 8 (0x40 + addr.toNat)) payload 0 s)).state := by
  have hheader : hdr 0 1 addr = BitVec.ofNat 8 (0x40 + addr.toNat) := (hdr_writeN addr).trans (header_eq_ofNat 1 addr)
  rw [← hheader]
  rfl

theorem exec_hdrRead1 {addr : Addr} (h : isStatus addr = false) (s : State) :
    exec (.hdrRead1 addr) s =
      .next (interpreted .read (exchange .read1 (BitVec.ofNat 8 (0x80 + addr.toNat)) [] 1 s)).state := by
  have hheader : hdr 1 0 addr = BitVec.ofNat 8 (0x80 + addr.toNat) := by
    rw [hdr_read1, h]
    exact header_eq_ofNat 2 addr
  rw [← hheader]
  rfl

theorem exec_hdrReadN {addr : Addr} (h : isStatus addr = false) (n : Byte) (s : State) :
    exec (.hdrReadN addr n) s =
      .next (interpreted .read (exchange .readN (BitVec.ofNat 8 (0xC0 + addr.toNat)) [] n.toNat s)).state := by
  have hheader : hdr 1 1 addr = BitVec.ofNat 8 (0xC0 + addr.toNat) := (hdr_readN addr).trans (header_eq_ofNat 3 addr)
  rw [← hheader]
  exact congrArg Host.Outcome.next (if_neg (by simp [h]))

/-- In the status range the row is a single read, its header with both control bits set (R96, D18). -/
theorem exec_hdrReadN_status {addr : Addr} (h : isStatus addr = true) (n : Byte) (s : State) :
    exec (.hdrReadN addr n) s =
      .next (interpreted .read (exchange .read1 (BitVec.ofNat 8 (0xC0 + addr.toNat)) [] 1 s)).state := by
  have hheader : hdr 1 0 addr = BitVec.ofNat 8 (0xC0 + addr.toNat) := by
    rw [hdr_read1, h]
    exact header_eq_ofNat 3 addr
  rw [← hheader]
  exact congrArg Host.Outcome.next (if_pos h)

/-! ### What an interpreted exchange leaves -/

theorem interpreted_smooth_state {trig : Trigger} {k : BusKind} {header : Byte} {sent : List Byte} {n : Nat}
    (h : s.env.answers = a :: rest) (hs : Smooth s.cfg trig n a) :
    (interpreted trig (exchange k header sent n s)).state =
      { s with trace := s.trace ++ smoothEvents s.cfg k header sent a, env := s.env.used rest 1 } := by
  rw [interpreted_smooth h hs, Run.state_go]

theorem interpreted_decided_state {trig : Trigger} {k : BusKind} {header : Byte} {sent : List Byte} {n : Nat}
    (h : s.env.answers = a :: rest) (hok : a.ok = true) (hn : a.data.length = n) :
    (interpreted trig (exchange k header sent n s)).state =
      (interp a.status trig (s.exchanged k header sent a rest)).state := by
  rw [interpreted_decided h hok hn]
  cases interp a.status trig (s.exchanged k header sent a rest) <;> rfl

/-- Settles O55: what each row sends, and what an interpreted exchange leaves on a smooth and on any successful
answer. -/
theorem headerRowsAreOneExchange : Obligations.HeaderRowsAreOneExchange := by
  intro s addr v n payload a rest hans
  refine ⟨fun hs => ⟨?_, ?_⟩, fun hrange => ⟨fun hs => ?_, fun hs => ?_⟩, fun hrange hs => ?_,
    fun hok => ⟨fun hdata => ?_, fun hrange => ⟨fun hn => ?_, fun hn => ?_⟩, fun hrange hn => ?_⟩⟩
  · rw [exec_hdrWrite1, interpreted_smooth_state hans hs]
  · rw [exec_hdrWriteN, interpreted_smooth_state hans hs]
  · rw [exec_hdrRead1 (isStatus_eq_false hrange), interpreted_smooth_state hans hs]
  · rw [exec_hdrReadN (isStatus_eq_false hrange), interpreted_smooth_state hans hs]
  · rw [exec_hdrReadN_status (isStatus_eq_true hrange), interpreted_smooth_state hans hs]
  · have hn : a.data.length = 0 := by rw [hdata]; rfl
    rw [exec_hdrWrite1, exec_hdrWriteN, interpreted_decided_state hans hok hn, interpreted_decided_state hans hok hn]
    exact ⟨rfl, rfl⟩
  · rw [exec_hdrRead1 (isStatus_eq_false hrange), interpreted_decided_state hans hok hn]
  · rw [exec_hdrReadN (isStatus_eq_false hrange), interpreted_decided_state hans hok hn]
  · rw [exec_hdrReadN_status (isStatus_eq_true hrange), interpreted_decided_state hans hok hn]

end Sys2Proof.Machine
end

section
/-! SUPPORT. The frames the decoder accepts carry well-formed instructions (20_memory.md R61, R66, R67, R71;
30_encoding.md R96). -/

namespace Sys2Proof

theorem decodeBusCommand_wf (w : CmdWord) : (decodeBusCommand w).wf = true := by
  unfold decodeBusCommand
  split <;> rfl

/-- The operands of a command word are never ill-formed (R92). -/
theorem decodeCommand_wf (w : CmdWord) : (decodeCommand w).wf = true := by
  unfold decodeCommand
  split
  case h_9 => exact decodeBusCommand_wf w
  case h_10 => split <;> rfl
  all_goals rfl

/-- A header with at least one payload slot. -/
theorem decodeHeader_wf {h : Byte} {payload : List Byte} {i : Instr} (hne : payload ≠ [])
    (hd : decodeHeader h payload = .instr i) : i.wf = true := by
  have hpos : 1 ≤ payload.length := List.length_pos_of_ne_nil hne
  unfold decodeHeader at hd
  dsimp only at hd
  generalize (h.extractLsb' 0 6 : Addr) = a at hd
  cases ha : isStatus a with
  | false =>
    simp only [ha, Bool.false_eq_true, if_false] at hd
    split at hd <;> split at hd <;> cases hd
    case h_1.refl => simp [Instr.wf, ha]
    case h_2.isTrue.refl h8 => simp [Instr.wf, ha, h8, hpos]
    case h_3.isTrue.refl => simp [Instr.wf, ha]
    case h_4.isTrue.refl h255 =>
      have hne : BitVec.ofNat 8 payload.length ≠ 0 := by bv_omega
      simpa [Instr.wf, ha] using hne
  | true =>
    simp only [ha, if_true] at hd
    split at hd
    case h_4 =>
      split at hd <;> cases hd
      simp [Instr.wf, ha]
    all_goals cases hd

theorem instr_wf_of_decode {b : Bits} {i : Instr} (h : decode b = .instr i) : i.wf = true := by
  cases b with
  | cmd40 w =>
    cases h
    exact decodeCommand_wf w
  | hdr8 bytes =>
    match bytes, h with
    | _ :: p :: ps, h => exact decodeHeader_wf (List.cons_ne_nil p ps) h

end Sys2Proof
end

section
/-! SUPPORT. The access discipline of the bus (20_memory.md R61 to R71): a well-formed configuration names addresses of
the right range only, so no exchange of any procedure breaks it. -/

namespace Sys2Proof.Machine

/-! ### The addresses a well-formed configuration names -/

/-- A configuration register stands below the status range (R9, R61). -/
theorem isStatus_of_lt {a : Addr} (h : a.toNat < 0x30) : isStatus a = false := isStatus_eq_false (.inl h)

/-- The addresses that a well-formed configuration has written or burst are ordinary ones (R9, R254, ID7). -/
structure OrdinaryTargets (c : Config) : Prop where
  freq2 : isStatus c.reg.freq2 = false
  freq1 : isStatus c.reg.freq1 = false
  freq0 : isStatus c.reg.freq0 = false
  mdmcfg4 : isStatus c.reg.mdmcfg4 = false
  mdmcfg2 : isStatus c.reg.mdmcfg2 = false
  deviatn : isStatus c.reg.deviatn = false
  frend0 : isStatus c.reg.frend0 = false
  patable : isStatus c.reg.patable = false
  rxfifo : isStatus c.reg.rxfifo = false
  fixedRegs : ∀ w ∈ c.fixedRegs, isStatus w.1 = false
  pktPre : c.pktPre.wf = true
  pktPost : c.pktPost.wf = true

theorem OrdinaryTargets.of_wf {c : Config} (h : c.wf = true) : OrdinaryTargets c := by
  simp only [Config.wf, RegMap.wf, List.all_cons, List.all_nil, List.all_eq_true, Bool.and_eq_true, Bool.and_true,
    Bool.not_eq_true', decide_eq_true_eq] at h
  obtain ⟨⟨⟨⟨⟨⟨⟨⟨⟨⟨⟨⟨h2, h1, h0, h4, hm2, hd, hf⟩, hpa⟩, hfifo⟩, -⟩, -⟩, -⟩, hfixed⟩, hpre⟩, hpost⟩, -⟩, -⟩, -⟩ := h
  exact ⟨isStatus_of_lt h2, isStatus_of_lt h1, isStatus_of_lt h0, isStatus_of_lt h4, isStatus_of_lt hm2,
    isStatus_of_lt hd, isStatus_of_lt hf, hpa, hfifo, hfixed, hpre, hpost⟩

/-- A well-formed described packet function writes ordinary addresses (R254). -/
theorem pktWrites_ordinary {ws : List PktWrite} {r : RadioConfig} (h : (PktFun.writes ws).wf = true) :
    ∀ w ∈ pktWrites ws r, isStatus w.1 = false := by
  intro w hw
  obtain ⟨p, hp, rfl⟩ := List.mem_map.mp hw
  simp only [PktFun.wf, List.all_eq_true, Bool.not_eq_true'] at h
  exact h p hp

/-- An arbitrary one too: its addresses carry the check. -/
theorem ordAddr_ordinary {ws : List (OrdAddr × Byte)} :
    ∀ w ∈ ws.map (fun p => (p.1.val, p.2)), isStatus w.1 = false := by
  intro w hw
  obtain ⟨p, -, rfl⟩ := List.mem_map.mp hw
  exact p.1.property

theorem pktPreOf_ordinary {c : Config} (h : c.pktPre.wf = true) (r : RadioConfig) :
    ∀ w ∈ pktPreOf c r, isStatus w.1 = false := by
  unfold pktPreOf
  split
  · rename_i ws hws
    exact pktWrites_ordinary (hws ▸ h)
  · exact ordAddr_ordinary

theorem pktPostOf_ordinary {c : Config} (h : c.pktPost.wf = true) (r : RadioConfig) :
    ∀ w ∈ pktPostOf c r, isStatus w.1 = false := by
  unfold pktPostOf
  split
  · rename_i ws hws
    exact pktWrites_ordinary (hws ▸ h)
  · exact ordAddr_ordinary

/-- A drain never asks for more bytes than a burst may have (R71, R230, ID21). -/
theorem drainCount_le (c : Config) (r status : Byte) : drainCount c r status ≤ 255 := by
  have hbyte (x : Byte) : x.toNat ≤ 255 := Nat.le_of_lt_succ x.isLt
  unfold drainCount reconcileOf
  split
  · split
    · exact hbyte _
    · exact (Nat.min_le_left _ _).trans (hbyte _)
  · exact hbyte _

/-! ### States that keep the discipline -/

/-- The configuration is well formed and every `Bus` event so far keeps the access rules. -/
structure State.Disciplined (s : State) : Prop where
  cfgWf : s.cfg.wf = true
  events : ∀ e ∈ s.trace, e.accessOk = true

variable {α β : Type} {s t u : State}

theorem State.Disciplined.targets (h : s.Disciplined) : OrdinaryTargets s.cfg := .of_wf h.cfgWf

/-- New events that keep the rules; of the rest of the state only the configuration is named. -/
theorem State.Disciplined.after (h : s.Disciplined) (new : List Event) (hcfg : t.cfg = s.cfg)
    (htrace : t.trace = s.trace ++ new) (hnew : ∀ e ∈ new, e.accessOk = true) : t.Disciplined :=
  ⟨hcfg ▸ h.cfgWf, fun e he => (List.mem_append.mp (htrace ▸ he)).elim (h.events e) (hnew e)⟩

theorem State.Disciplined.congr (h : s.Disciplined) (hcfg : t.cfg = s.cfg) (htrace : t.trace = s.trace) :
    t.Disciplined := ⟨hcfg ▸ h.cfgWf, htrace ▸ h.events⟩

theorem State.Disciplined.setEnv (h : s.Disciplined) (e : Env) : (s.setEnv e).Disciplined := h.congr rfl rfl

theorem State.Disciplined.setNq (h : s.Disciplined) (n : Nat) : (s.setNq n).Disciplined := h.congr rfl rfl

theorem State.Disciplined.arm (h : s.Disciplined) (policy : BitVec 2) : (s.arm policy).Disciplined := h.congr rfl rfl

theorem State.Disciplined.complete (h : s.Disciplined) (ok : Bool) (v : Word32) : (s.complete ok v).Disciplined :=
  h.congr rfl rfl

theorem State.Disciplined.emit (h : s.Disciplined) {e : Event} (he : e.accessOk = true) : (s.emit e).Disciplined :=
  h.after [e] rfl rfl (by simpa using he)

theorem State.Disciplined.setCtl (h : s.Disciplined) (c : CtlState) : (s.setCtl c).Disciplined :=
  h.after [.ctl c] rfl rfl (by simp [Event.accessOk])

theorem State.Disciplined.raiseFatal (h : s.Disciplined) (c : FatalCode) : (s.raiseFatal c).Disciplined :=
  h.after [.ctl .faulted] rfl rfl (by simp [Event.accessOk])

/-- Sequencing keeps it. -/
theorem State.Disciplined.bind {r : Run α} {f : α → State → Run β} (h : r.state.Disciplined)
    (hf : ∀ a u, u.Disciplined → (f a u).state.Disciplined) : (r.bind f).state.Disciplined := by
  cases r with
  | go a u => exact hf a u h
  | stop w u => exact h

/-- Lifting a failure to a fatal fault leaves the same state. -/
theorem State.Disciplined.fatalOnFail {r : Run α} (h : r.state.Disciplined) :
    r.fatalOnFail.state.Disciplined := r.fatalOnFail_state.symm ▸ h

/-! ### The primitives -/

/-- An exchange whose event keeps the rules for every answer of the length asked for. -/
theorem exchange_disciplined (h : s.Disciplined) {k : BusKind} {header : Byte} {sent : List Byte} {n : Nat}
    (hok : ∀ a : Answer, a.data.length = n → (Event.bus k header sent a).accessOk = true) :
    (exchange k header sent n s).2.Disciplined :=
  h.after [.bus k header sent (s.env.nextAnswer n)] rfl rfl (by simpa using hok _ (nextAnswer_length _ n))

theorem rawStrobe_disciplined (h : s.Disciplined) (c : Byte) : (rawStrobe c s).2.Disciplined :=
  exchange_disciplined h fun a hn => by simp [Event.accessOk, List.eq_nil_of_length_eq_zero hn]

theorem rawWrite1_disciplined (h : s.Disciplined) {a : Addr} (ha : isStatus a = false) (v : Byte) :
    (rawWrite1 a v s).2.Disciplined :=
  exchange_disciplined h fun x hn => by
    rw [hdr_write1]
    simp [Event.accessOk, ha, List.eq_nil_of_length_eq_zero hn]

theorem rawRead1_disciplined (h : s.Disciplined) (a : Addr) : (rawRead1 a s).2.Disciplined :=
  exchange_disciplined h fun x hn => by
    rw [hdr_read1]
    simp [Event.accessOk, hn]

theorem rawWriteN_disciplined (h : s.Disciplined) {a : Addr} (ha : isStatus a = false) {payload : List Byte}
    (h1 : 1 ≤ payload.length) (h8 : payload.length ≤ 8) : (rawWriteN a payload s).2.Disciplined :=
  exchange_disciplined h fun x hn => by
    rw [hdr_writeN]
    simp [Event.accessOk, ha, h8, List.eq_nil_of_length_eq_zero hn]
    omega

theorem rawReadN_disciplined (h : s.Disciplined) {a : Addr} (ha : isStatus a = false) {n : Nat} (h1 : 1 ≤ n)
    (h255 : n ≤ 255) : (rawReadN a n s).2.Disciplined :=
  exchange_disciplined h fun x hn => by
    rw [hdr_readN]
    simp [Event.accessOk, ha, hn, h1, h255]

/-! ### The interpreter -/

theorem drain_disciplined (h : s.Disciplined) : (drain s).state.Disciplined := by
  have hcount := rawRead1_disciplined h s.cfg.reg.rxbytes
  unfold drain
  dsimp only
  split
  · split
    · rename_i hpos
      have hburst := rawReadN_disciplined hcount h.targets.rxfifo hpos (drainCount_le _ _ _)
      split
      · exact hburst.emit rfl
      · exact hburst
    · exact hcount
  · exact hcount

theorem flush_disciplined (h : s.Disciplined) : (flush s).state.Disciplined := by
  have hstrobe := rawStrobe_disciplined h s.cfg.stb.sfrx
  unfold flush
  dsimp only
  split <;> exact hstrobe

theorem interp_disciplined (h : s.Disciplined) (status : Byte) (trig : Trigger) :
    (interp status trig s).state.Disciplined := by
  unfold interp
  split
  · exact (drain_disciplined h).bind fun _ _ hu => (flush_disciplined hu).bind fun _ _ hv => hv
  · exact h
  · split
    · exact (drain_disciplined h).bind fun _ _ hu => hu
    · exact h
  · exact h
  all_goals exact h.emit rfl

theorem interpreted_disciplined {x : Answer × State} (h : x.2.Disciplined) (trig : Trigger) :
    (interpreted trig x).state.Disciplined := by
  unfold interpreted
  split
  · exact (interp_disciplined h _ _).bind fun _ _ hu => hu
  · exact h

theorem busStrobe_disciplined (h : s.Disciplined) (c : Byte) : (busStrobe c s).state.Disciplined :=
  interpreted_disciplined (rawStrobe_disciplined h c) _

theorem busWrite1_disciplined (h : s.Disciplined) {a : Addr} (ha : isStatus a = false) (v : Byte) :
    (busWrite1 a v s).state.Disciplined := interpreted_disciplined (rawWrite1_disciplined h ha v) _

theorem busRead1_disciplined (h : s.Disciplined) (a : Addr) : (busRead1 a s).state.Disciplined :=
  interpreted_disciplined (rawRead1_disciplined h a) _

theorem busWriteN_disciplined (h : s.Disciplined) {a : Addr} (ha : isStatus a = false) {payload : List Byte}
    (h1 : 1 ≤ payload.length) (h8 : payload.length ≤ 8) : (busWriteN a payload s).state.Disciplined :=
  interpreted_disciplined (rawWriteN_disciplined h ha h1 h8) _

theorem busReadN_disciplined (h : s.Disciplined) {a : Addr} (ha : isStatus a = false) {n : Nat} (h1 : 1 ≤ n)
    (h255 : n ≤ 255) : (busReadN a n s).state.Disciplined :=
  interpreted_disciplined (rawReadN_disciplined h ha h1 h255) _

end Sys2Proof.Machine
end

section
/-! SUPPORT. Every command, bus header row and step keeps the access discipline of the bus (20_memory.md R61 to R71). -/

namespace Sys2Proof.Machine

variable {s t : State}

/-! ### The commands but INIT -/

theorem cfgwBody_disciplined (h : s.Disciplined) (idx : CsrIdx) (v : Word32) :
    (cfgwBody idx v s).state.Disciplined := by
  unfold cfgwBody
  split
  · exact h
  · exact h.congr rfl rfl

theorem wrregBody_disciplined (h : s.Disciplined) (a : Addr) (v : Byte) : (wrregBody a v s).state.Disciplined := by
  cases hcheck : writeCheck a with
  | some e => rw [wrregBody_rejected hcheck]; exact h
  | none =>
    rw [wrregBody_admitted hcheck]
    exact (busWrite1_disciplined h (writeCheck_eq_none_iff.mp hcheck) v).bind fun _ _ hu => hu

theorem wrburstBody_disciplined (h : s.Disciplined) (a : Addr) (n : Byte) :
    (wrburstBody a n s).state.Disciplined := by
  cases hcheck : burstCheck a n 8 with
  | some e => rw [wrburstBody_rejected hcheck]; exact h
  | none =>
    obtain ⟨ha, h1, h8⟩ := burstCheck_eq_none_iff.mp hcheck
    have hlen : (s.dev.paBuf.toList.take n.toNat).length = n.toNat := by simpa using h8
    rw [wrburstBody_admitted hcheck]
    exact (busWriteN_disciplined h ha (by rwa [hlen]) (by rwa [hlen])).bind fun _ _ hu => hu

theorem rdburstBody_disciplined (h : s.Disciplined) (a : Addr) (n : Byte) :
    (rdburstBody a n s).state.Disciplined := by
  cases hcheck : burstCheck a n 255 with
  | some e => rw [rdburstBody_rejected hcheck]; exact h
  | none =>
    obtain ⟨ha, h1, h255⟩ := burstCheck_eq_none_iff.mp hcheck
    rw [rdburstBody_admitted hcheck]
    exact (busReadN_disciplined h ha h1 h255).bind fun _ _ hu => hu.emit rfl

theorem rdregBody_disciplined (h : s.Disciplined) (a : Addr) : (rdregBody a s).state.Disciplined :=
  (busRead1_disciplined h a).bind fun _ _ hu => hu

theorem strobeBody_disciplined (h : s.Disciplined) (c : Byte) : (strobeBody c s).state.Disciplined :=
  (busStrobe_disciplined h c).bind fun _ _ hu => hu

theorem interpBody_disciplined (h : s.Disciplined) (status : Byte) (trig : Trigger) :
    (interpBody status trig s).state.Disciplined := (interp_disciplined h status trig).bind fun _ _ hu => hu

theorem freqWrites_disciplined (h : s.Disciplined) (w : Nat) : (freqWrites w s).state.Disciplined :=
  (busWrite1_disciplined h h.targets.freq2 _).bind fun _ _ h1 =>
  (busWrite1_disciplined h1 h.targets.freq1 _).bind fun _ _ h2 =>
  (busWrite1_disciplined h2 h.targets.freq0 _).bind fun _ _ h3 => h3

theorem setfreqBody_disciplined (h : s.Disciplined) (hz : Word32) : (setfreqBody hz s).state.Disciplined := by
  cases hw : freqOverflow (encFreq (clampHz hz.toNat) s.oscNat) with
  | true => rw [setfreqBody_overflow hw]; exact h
  | false =>
    rw [setfreqBody_fits hw]
    exact (freqWrites_disciplined h _).bind fun _ _ hu => hu.congr rfl rfl

theorem setbwBody_disciplined (h : s.Disciplined) (hz : Word32) : (setbwBody hz s).state.Disciplined :=
  (busRead1_disciplined h _).bind fun _ _ h1 =>
  (busWrite1_disciplined h1 h.targets.mdmcfg4 _).bind fun _ _ h2 => h2

theorem setdevBody_disciplined (h : s.Disciplined) (hz : Word32) : (setdevBody hz s).state.Disciplined :=
  (busWrite1_disciplined h h.targets.deviatn _).bind fun _ _ hu => hu

/-- The staging buffer is one burst of eight (R71, R186). -/
theorem setpwrBody_disciplined (h : s.Disciplined) (dbm : Byte) : (setpwrBody dbm s).state.Disciplined := by
  cases hfreq : s.dev.freqHz with
  | none => rw [setpwrBody_unset hfreq]; exact h
  | some f =>
    by_cases hl : paTableFits s.cfg f
    · have hstaged : (s.staged f dbm).Disciplined := h.congr rfl rfl
      rw [setpwrBody_staged hfreq hl]
      exact (busWriteN_disciplined hstaged h.targets.patable (by simp) (by simp)).bind fun _ _ hu => hu
    · rw [setpwrBody_badTable hfreq hl]; exact h

theorem setmodBody_disciplined (h : s.Disciplined) : (setmodBody s).state.Disciplined := by
  unfold setmodBody
  split
  · exact h
  · exact (busWrite1_disciplined h h.targets.mdmcfg2 _).bind fun _ _ h1 =>
      (busRead1_disciplined h1 _).bind fun _ _ h2 => (busWrite1_disciplined h2 h.targets.frend0 _).bind fun _ _ h3 => h3

theorem post_disciplined (h : s.Disciplined) : s.post.Disciplined := by
  unfold State.post
  split
  · exact h.setNq _
  · exact h

theorem interrupt_disciplined (h : s.Disciplined) (e : Edge) : (s.interrupt e).Disciplined := by
  unfold State.interrupt
  split
  · exact post_disciplined h
  · exact h

theorem updateBody_disciplined (h : s.Disciplined) : (updateBody s).state.Disciplined := by
  have hwait := h.setEnv s.env.afterWait
  unfold updateBody
  split
  · exact h.setNq _
  · split
    · split
      · exact (post_disciplined hwait).setNq _
      · exact hwait
    · exact h

theorem rxAttempt_disciplined (h : s.Disciplined) (k t : Nat) : (rxAttempt k t s).state.Disciplined := by
  induction k generalizing t s with
  | zero =>
    refine (busStrobe_disciplined h _).bind fun _ u hu => ?_
    split
    · exact hu.setCtl _
    · exact hu.emit rfl
  | succ k ih =>
    refine (busStrobe_disciplined h _).bind fun _ u hu => ?_
    split
    · exact hu.setCtl _
    · exact ih (hu.emit rfl) _

theorem beginrxBody_disciplined (h : s.Disciplined) : (beginrxBody s).state.Disciplined :=
  rxAttempt_disciplined (((h.emit rfl).emit rfl).arm _) _ _

/-! ### INIT -/

theorem waitEvents_accessOk (k : Nat) : ∀ e ∈ waitEvents k, e.accessOk = true := by
  intro e he
  rcases List.mem_append.mp he with he | he
  · rw [List.eq_of_mem_replicate he]; rfl
  · rw [List.mem_singleton.mp he]; rfl

theorem waitLevels_disciplined (h : s.Disciplined) (ls : List Bool) : (waitLevels ls s).state.Disciplined := by
  induction ls generalizing s with
  | nil =>
    unfold waitLevels
    dsimp only
    cases Config.freeReadyAfter s.env.fresh with
    | none => exact h.setEnv _
    | some k => exact h.after (waitEvents k) rfl (List.append_assoc _ _ _) (waitEvents_accessOk k)
  | cons l rest ih =>
    have hread : ((s.setEnv { s.env with levels := rest }).emit (.line (.dataInRead l))).Disciplined :=
      (h.setEnv _).emit rfl
    unfold waitLevels
    cases l with
    | true => exact ih hread
    | false => exact hread

theorem pulsed_disciplined (h : s.Disciplined) : s.pulsed.Disciplined :=
  ((((h.emit rfl).emit rfl).emit rfl).emit rfl).emit rfl

theorem resetSeq_disciplined (h : s.Disciplined) : (resetSeq s).state.Disciplined :=
  (waitLevels_disciplined (pulsed_disciplined h) _).bind fun _ _ h2 =>
  (busStrobe_disciplined h2 _).fatalOnFail.bind fun _ _ h3 => waitLevels_disciplined h3 _

theorem writeAll_disciplined {ws : List (Addr × Byte)} (hws : ∀ w ∈ ws, isStatus w.1 = false) (h : s.Disciplined) :
    (writeAll ws s).state.Disciplined := by
  induction ws generalizing s with
  | nil => exact h
  | cons w ws ih =>
    rw [List.forall_mem_cons] at hws
    exact (busWrite1_disciplined h hws.1 _).fatalOnFail.bind fun _ _ hu => ih hws.2 hu

/-- A SET command's procedure run as a part of INIT. -/
theorem sub_disciplined {body : State → Run Word32} (h : (body s).state.Disciplined) :
    (sub body s).state.Disciplined := h.fatalOnFail.bind fun _ _ hu => hu

theorem devStep_disciplined (h : s.Disciplined) : (devStep s).state.Disciplined := by
  unfold devStep
  split
  · exact h
  · exact sub_disciplined (setdevBody_disciplined h _)

theorem loadConfig_disciplined (h : s.Disciplined) : (loadConfig s).state.Disciplined :=
  (writeAll_disciplined h.targets.fixedRegs h).bind fun _ _ h1 =>
  (writeAll_disciplined (pktPreOf_ordinary h1.targets.pktPre _) h1).bind fun _ _ h2 =>
  (sub_disciplined (setfreqBody_disciplined h2 _)).bind fun _ _ h3 =>
  (sub_disciplined (setbwBody_disciplined h3 _)).bind fun _ _ h4 => (devStep_disciplined h4).bind fun _ _ h5 =>
  (sub_disciplined (setpwrBody_disciplined h5 _)).bind fun _ _ h6 =>
  (sub_disciplined (setmodBody_disciplined h6)).bind fun _ _ h7 =>
  writeAll_disciplined (pktPostOf_ordinary h7.targets.pktPost _) h7

theorem verify_disciplined (h : s.Disciplined) : (verify s).state.Disciplined := by
  refine (busRead1_disciplined h _).fatalOnFail.bind fun _ _ h1 =>
    (busRead1_disciplined h1 _).fatalOnFail.bind fun _ _ h2 => ?_
  split
  · exact h2
  · exact h2.setCtl _

theorem initBody_disciplined (h : s.Disciplined) : (initBody s).state.Disciplined := by
  unfold initBody
  split
  · exact h
  · have hosc : (s.setOsc s.radio.oscHz).Disciplined := h.congr rfl rfl
    exact (resetSeq_disciplined (hosc.setCtl _)).bind fun _ _ h1 =>
      (loadConfig_disciplined (h1.setCtl _)).bind fun _ _ h2 => verify_disciplined (h2.setCtl _)

/-! ### Instructions and steps -/

/-- A command keeps the discipline when its procedure does. -/
theorem runCmd_disciplined {g : CmdGroup} {body : State → Run Word32} (h : s.Disciplined)
    (hbody : (body s).state.Disciplined) (hnext : runCmd g body s = .next t) : t.Disciplined := by
  rcases runCmd_eq_next hnext with ⟨-, rfl⟩ | ⟨-, hfinish⟩
  · exact h.complete _ _
  · rcases finish_eq_next hfinish with ⟨v, u, hr, rfl⟩ | ⟨e, u, hr, rfl⟩ | ⟨c, u, hr, rfl⟩ <;> rw [hr] at hbody
    · exact hbody.complete _ _
    · exact hbody.complete _ _
    · exact hbody.raiseFatal c

theorem runReserved_disciplined (h : s.Disciplined) (hnext : runReserved s = .next t) : t.Disciplined := by
  unfold runReserved at hnext
  split at hnext <;> cases hnext
  · exact h.complete _ _
  · exact h.raiseFatal _

/-- A burst read row: a status register is read singly, and elsewhere a well-formed row asks for a byte at least. -/
theorem execHdrReadN_disciplined (h : s.Disciplined) {a : Addr} {n : Byte} (hwf : (Instr.hdrReadN a n).wf = true)
    (hnext : execHdrReadN a n s = .next t) : t.Disciplined := by
  unfold execHdrReadN at hnext
  cases ha : isStatus a <;> simp only [ha, Bool.false_eq_true, if_true, if_false] at hnext <;> cases hnext
  · have hne : n ≠ 0 := by simpa [Instr.wf, ha] using hwf
    exact busReadN_disciplined h ha (by bv_omega) (Nat.le_of_lt_succ n.isLt)
  · exact busRead1_disciplined h a

/-- Every well-formed instruction keeps the discipline. -/
theorem exec_disciplined {i : Instr} (h : s.Disciplined) (hwf : i.wf = true) (hnext : exec i s = .next t) :
    t.Disciplined := by
  cases i with
  | cfgw idx v => exact runCmd_disciplined h (cfgwBody_disciplined h idx v) hnext
  | cfgr idx => exact runCmd_disciplined (g := .cfgr) (body := cfgrBody idx) h h hnext
  | setfreq hz => exact runCmd_disciplined h (setfreqBody_disciplined h hz) hnext
  | setbw hz => exact runCmd_disciplined h (setbwBody_disciplined h hz) hnext
  | setdev hz => exact runCmd_disciplined h (setdevBody_disciplined h hz) hnext
  | setpwr dbm => exact runCmd_disciplined h (setpwrBody_disciplined h dbm) hnext
  | setmod => exact runCmd_disciplined h (setmodBody_disciplined h) hnext
  | wrreg a v => exact runCmd_disciplined h (wrregBody_disciplined h a v) hnext
  | rdreg a => exact runCmd_disciplined h (rdregBody_disciplined h a) hnext
  | wrburst a n => exact runCmd_disciplined h (wrburstBody_disciplined h a n) hnext
  | rdburst a n => exact runCmd_disciplined h (rdburstBody_disciplined h a n) hnext
  | interpW status => exact runCmd_disciplined h (interpBody_disciplined h status .write) hnext
  | interpR status => exact runCmd_disciplined h (interpBody_disciplined h status .read) hnext
  | init => exact runCmd_disciplined h (initBody_disciplined h) hnext
  | beginrx => exact runCmd_disciplined h (beginrxBody_disciplined h) hnext
  | update => exact runCmd_disciplined h (updateBody_disciplined h) hnext
  | strobe c => exact runCmd_disciplined h (strobeBody_disciplined h c) hnext
  | reserved0 => exact runReserved_disciplined h hnext
  | reservedE => exact runReserved_disciplined h hnext
  | reservedF => exact runReserved_disciplined h hnext
  | hdrWrite1 a v =>
    cases hnext
    exact busWrite1_disciplined h (by simpa [Instr.wf] using hwf) v
  | hdrWriteN a payload =>
    cases hnext
    simp only [Instr.wf, Bool.and_eq_true, Bool.not_eq_true', decide_eq_true_eq] at hwf
    obtain ⟨⟨ha, h1⟩, h8⟩ := hwf
    exact busWriteN_disciplined h ha h1 h8
  | hdrRead1 a =>
    cases hnext
    exact busRead1_disciplined h a
  | hdrReadN a n => exact execHdrReadN_disciplined h hwf hnext

/-- Settles O14: a decoded instruction, an edge, a power-on and an idle step each keep the discipline. -/
theorem everyStepKeepsTheBusDiscipline : Obligations.EveryStepKeepsTheBusDiscipline := by
  intro s t hwf hevents hstep
  have hs : s.Disciplined := ⟨hwf, hevents⟩
  have htake : s.takeInput.Disciplined := hs.setEnv _
  suffices t.Disciplined from this.events
  unfold step at hstep
  split at hstep
  · cases hstep
    exact hs
  · cases hstep
    exact interrupt_disciplined htake _
  · cases hstep
    exact ⟨hwf, by simp [State.powerOn, State.resetOf]⟩
  · split at hstep
    · rename_i hdecode
      exact exec_disciplined htake (instr_wf_of_decode hdecode) hstep
    · cases hstep

end Sys2Proof.Machine
end

section
/-! SUPPORT. The command decoder as a function of the three fields of a command word, and what it reads of each
(30_encoding.md R90 to R93, R99). -/

namespace Sys2Proof

/-! ### The fields of a command word -/

@[simp] theorem opField_cmdWord (op idx : BitVec 4) (arg : Word32) : opField (cmdWord op idx arg) = op := by
  apply BitVec.eq_of_toNat_eq
  rw [opField, slice_toNat, cmdWord_toNat]
  omega

@[simp] theorem idxField_cmdWord (op idx : BitVec 4) (arg : Word32) : idxField (cmdWord op idx arg) = idx := by
  apply BitVec.eq_of_toNat_eq
  rw [idxField, slice_toNat, cmdWord_toNat]
  omega

@[simp] theorem argField_cmdWord (op idx : BitVec 4) (arg : Word32) : argField (cmdWord op idx arg) = arg := by
  apply BitVec.eq_of_toNat_eq
  rw [argField, slice_toNat, cmdWord_toNat]
  omega

/-- An operand that lies within `arg` is a slice of `arg`. -/
theorem argSlice_eq (w : CmdWord) {start len : Nat} (h : start + len ≤ 32) :
    w.extractLsb' start len = BitVec.ofNat len ((argField w).toNat / 2 ^ start) := by
  apply BitVec.eq_of_getLsbD_eq
  intro i hi
  have hlt : i + start < 32 := by omega
  simp only [argField, BitVec.getLsbD_extractLsb', BitVec.getLsbD_ofNat, Nat.testBit_div_two_pow, BitVec.testBit_toNat,
    hi, hlt, decide_true, Bool.true_and, Nat.zero_add, Nat.add_comm start i]

theorem argAddr_eq (w : CmdWord) : argAddr w = BitVec.ofNat 6 (argField w).toNat :=
  (argSlice_eq w (by decide)).trans (by rw [pow_zero, Nat.div_one])

theorem argByte_eq (w : CmdWord) : argByte w = BitVec.ofNat 8 (argField w).toNat :=
  (argSlice_eq w (by decide)).trans (by rw [pow_zero, Nat.div_one])

theorem argValue_eq (w : CmdWord) : argValue w = BitVec.ofNat 8 ((argField w).toNat / 2 ^ 8) :=
  argSlice_eq w (by decide)

theorem argLen_eq (w : CmdWord) : argLen w = BitVec.ofNat 8 ((argField w).toNat / 2 ^ 16) :=
  argSlice_eq w (by decide)

/-- What selects among the bus commands (R91). -/
theorem busSelect_toNat (w : CmdWord) : (w.extractLsb' 32 2).toNat = (idxField w).toNat % 4 := by
  rw [idxField, slice_toNat, slice_toNat]
  omega

/-- What selects the trigger of INTERP (R91). -/
theorem triggerSelect_eq_zero_iff (w : CmdWord) : w.extractLsb' 32 1 = 0#1 ↔ (idxField w).toNat % 2 = 0 := by
  rw [← BitVec.toNat_inj, idxField, slice_toNat, slice_toNat]
  simp only [BitVec.toNat_ofNat]
  omega

/-! ### The command set -/

theorem decodeBusCommand_eq (w : CmdWord) : decodeBusCommand w =
    if (idxField w).toNat % 4 = 0 then .wrreg (argAddr w) (argValue w)
    else if (idxField w).toNat % 4 = 1 then .rdreg (argAddr w)
    else if (idxField w).toNat % 4 = 2 then .wrburst (argAddr w) (argLen w)
    else .rdburst (argAddr w) (argLen w) := by
  rw [decodeBusCommand, busSelect_toNat]
  split <;> simp_all

/-- Settles O3: the match on `op` is the table row by row, and each operand is its slice of `arg`. -/
theorem commandDecodeFollowsTheCommandSet : Obligations.CommandDecodeFollowsTheCommandSet := by
  intro op idx arg
  change decodeCommand (cmdWord op idx arg) = _
  generalize hw : cmdWord op idx arg = w
  obtain rfl : opField w = op := by rw [← hw, opField_cmdWord]
  obtain rfl : idxField w = idx := by rw [← hw, idxField_cmdWord]
  obtain rfl : argField w = arg := by rw [← hw, argField_cmdWord]
  simp only [← argAddr_eq, ← argByte_eq, ← argValue_eq, ← argLen_eq, ← decodeBusCommand_eq,
    ← triggerSelect_eq_zero_iff]
  rw [decodeCommand]
  simp only [← BitVec.toNat_inj, BitVec.toNat_ofNat]
  generalize (opField w).toNat = op
  split
  case h_16 => simp_all
  all_goals rfl

end Sys2Proof
end

section
/-! SUPPORT. Decoding what the encoder writes: the fields of a command word, and the header and payload of a frame, are
read back (30_encoding.md R91, R95, R96; log 22). -/

namespace Sys2Proof

/-! ### The `arg` of each operand form as a number -/

/-- Two fields side by side as a number. -/
theorem append_toNat {m n : Nat} (x : BitVec m) (y : BitVec n) : (x ++ y).toNat = x.toNat * 2 ^ n + y.toNat := by
  rw [BitVec.toNat_append, ← Nat.shiftLeft_add_eq_or_of_lt y.isLt, Nat.shiftLeft_eq]

theorem argOfByte_toNat (b : Byte) : (argOfByte b).toNat = b.toNat := by
  have h : argOfByte b = (0#24 ++ b : BitVec (24 + 8)) := rfl
  rw [h, append_toNat, BitVec.toNat_ofNat]
  omega

theorem argSingle_toNat (a : Addr) (v : Byte) : (argSingle a v).toNat = v.toNat * 2 ^ 8 + a.toNat := by
  have h : argSingle a v = ((0#16 ++ v ++ 0#2 : BitVec (16 + 8 + 2)) ++ a : BitVec (16 + 8 + 2 + 6)) := rfl
  simp only [h, append_toNat, BitVec.toNat_ofNat]
  omega

theorem argBurst_toNat (a : Addr) (n : Byte) : (argBurst a n).toNat = n.toNat * 2 ^ 16 + a.toNat := by
  have h : argBurst a n = ((0#8 ++ n ++ 0#10 : BitVec (8 + 8 + 10)) ++ a : BitVec (8 + 8 + 10 + 6)) := rfl
  simp only [h, append_toNat, BitVec.toNat_ofNat]
  omega

/-! ### The operands read back -/

section Operands

variable {op idx : BitVec 4}

@[simp] theorem argByte_argOfByte (b : Byte) : argByte (cmdWord op idx (argOfByte b)) = b := by
  rw [argByte_eq, argField_cmdWord, argOfByte_toNat, BitVec.ofNat_toNat, BitVec.setWidth_eq]

@[simp] theorem argAddr_argSingle (a : Addr) (v : Byte) : argAddr (cmdWord op idx (argSingle a v)) = a := by
  rw [argAddr_eq, argField_cmdWord, argSingle_toNat]
  bv_omega

@[simp] theorem argValue_argSingle (a : Addr) (v : Byte) : argValue (cmdWord op idx (argSingle a v)) = v := by
  rw [argValue_eq, argField_cmdWord, argSingle_toNat]
  bv_omega

@[simp] theorem argAddr_argBurst (a : Addr) (n : Byte) : argAddr (cmdWord op idx (argBurst a n)) = a := by
  rw [argAddr_eq, argField_cmdWord, argBurst_toNat]
  bv_omega

@[simp] theorem argLen_argBurst (a : Addr) (n : Byte) : argLen (cmdWord op idx (argBurst a n)) = n := by
  rw [argLen_eq, argField_cmdWord, argBurst_toNat]
  bv_omega

end Operands

/-! ### The frames of the four header forms -/

theorem header_control (c : BitVec 2) (a : Addr) : (c ++ a : Byte).extractLsb' 6 2 = c := Machine.hdrBits_append c a

theorem header_address (c : BitVec 2) (a : Addr) : (c ++ a : Byte).extractLsb' 0 6 = a := Machine.hdrAddr_append c a

section HeaderForms

variable {a : Addr}

theorem decodeHeader_write1 (h : isStatus a = false) (v : Byte) :
    decodeHeader (0#2 ++ a) [v] = .instr (.hdrWrite1 a v) := by
  simp [decodeHeader, header_control, header_address, h]

theorem decodeHeader_writeN (h : isStatus a = false) {payload : List Byte} (h8 : payload.length ≤ 8) :
    decodeHeader (1#2 ++ a) payload = .instr (.hdrWriteN a payload) := by
  simp [decodeHeader, header_control, header_address, h, h8]

theorem decodeHeader_read1 (h : isStatus a = false) (slot : Byte) :
    decodeHeader (2#2 ++ a) [slot] = .instr (.hdrRead1 a) := by
  simp [decodeHeader, header_control, header_address, h]

theorem decodeHeader_readN (h : isStatus a = false) {n : Byte} {slots : List Byte} (hn : slots.length = n.toNat) :
    decodeHeader (3#2 ++ a) slots = .instr (.hdrReadN a n) := by
  have h255 : n.toNat ≤ 255 := Nat.le_of_lt_succ n.isLt
  simp [decodeHeader, header_control, header_address, h, hn, h255]

theorem decodeHeader_readStatus (h : isStatus a = true) (slot : Byte) :
    decodeHeader (3#2 ++ a) [slot] = .instr (.hdrReadN a 1) := by
  simp [decodeHeader, header_control, header_address, h]

end HeaderForms

/-! ### Every row -/

theorem decodeFrame_eq_decodeHeader (h : Byte) {payload : List Byte} (hne : payload ≠ []) :
    decodeFrame (h :: payload) = decodeHeader h payload := by
  cases payload with
  | nil => exact absurd rfl hne
  | cons _ _ => rfl

/-- Settles O1: each field the encoder writes is the field the decoder reads; in a frame, well-formedness is what the
decoder's checks ask for. -/
theorem decodeOfEncodeIsTheInstruction : Obligations.DecodeOfEncodeIsTheInstruction := by
  intro i hwf
  cases i with
  | hdrWrite1 a v =>
    have ha : isStatus a = false := by simpa [Instr.wf] using hwf
    exact decodeHeader_write1 ha v
  | hdrWriteN a payload =>
    simp only [Instr.wf, Bool.and_eq_true, Bool.not_eq_true', decide_eq_true_eq] at hwf
    obtain ⟨⟨ha, h1⟩, h8⟩ := hwf
    exact (decodeFrame_eq_decodeHeader _ (List.ne_nil_of_length_pos h1)).trans (decodeHeader_writeN ha h8)
  | hdrRead1 a =>
    have ha : isStatus a = false := by simpa [Instr.wf] using hwf
    exact decodeHeader_read1 ha 0
  | hdrReadN a n =>
    cases ha : isStatus a with
    | true =>
      obtain rfl : n = 1 := by simpa [Instr.wf, ha] using hwf
      exact decodeHeader_readStatus ha 0
    | false =>
      have hn : n ≠ 0 := by simpa [Instr.wf, ha] using hwf
      have hne : List.replicate n.toNat (0 : Byte) ≠ [] := by
        simpa [List.replicate_eq_nil_iff, BitVec.toNat_eq] using hn
      exact (decodeFrame_eq_decodeHeader _ hne).trans (decodeHeader_readN ha List.length_replicate)
  | wrreg | rdreg | wrburst | rdburst => simp [decode, encode, decodeCommand, decodeBusCommand_eq]
  | interpW | interpR => simp [decode, encode, decodeCommand, triggerSelect_eq_zero_iff]
  | _ => simp [decode, encode, decodeCommand]

end Sys2Proof
end

section
/-! SUPPORT. The bits a command does not name (30_encoding.md R92). -/

namespace Sys2Proof.Machine

/-- Two words have the same slices inside a mask. -/
def AgreeOn (mask w v : CmdWord) : Prop :=
  ∀ start len, mask.extractLsb' start len = BitVec.allOnes len → v.extractLsb' start len = w.extractLsb' start len

theorem agreeOn_xor {w m mask : CmdWord} (h : m &&& mask = 0) : AgreeOn mask w (w ^^^ m) := by
  intro start len hmask
  have hm : m.extractLsb' start len = 0#len := by
    have hand := congrArg (BitVec.extractLsb' start len) h
    simpa [BitVec.extractLsb'_and, hmask] using hand
  rw [BitVec.extractLsb'_xor, hm, BitVec.xor_zero]

/-- Every bus command names `op`, its selector and its address (R91). -/
theorem namedBits_bus (w : CmdWord) :
    (namedBits (decodeBusCommand w)).extractLsb' 36 4 = BitVec.allOnes 4 ∧
    (namedBits (decodeBusCommand w)).extractLsb' 32 2 = BitVec.allOnes 2 ∧
    (namedBits (decodeBusCommand w)).extractLsb' 0 6 = BitVec.allOnes 6 := by
  unfold decodeBusCommand
  split <;> simp only [namedBits] <;> decide

/-- Every command names its `op` (R91). -/
theorem namedBits_op (w : CmdWord) : (namedBits (decodeCommand w)).extractLsb' 36 4 = BitVec.allOnes 4 := by
  unfold decodeCommand
  split
  case h_9 => exact (namedBits_bus w).1
  case h_10 => split <;> simp only [namedBits] <;> decide
  all_goals
    simp only [namedBits]
    decide

theorem decodeBusCommand_congr {w v : CmdWord} (h : AgreeOn (namedBits (decodeBusCommand w)) w v) :
    decodeBusCommand v = decodeBusCommand w := by
  obtain ⟨-, hsel, haddr⟩ := namedBits_bus w
  replace hsel := h 32 2 hsel
  replace haddr : argAddr v = argAddr w := h 0 6 haddr
  revert h
  unfold decodeBusCommand
  rw [hsel, haddr]
  split <;> simp only [namedBits] <;> intro h
  case h_1 => exact congrArg (Instr.wrreg _) (h 8 8 rfl)
  case h_2 => trivial
  case h_3 => exact congrArg (Instr.wrburst _) (h 16 8 rfl)
  case h_4 => exact congrArg (Instr.rdburst _) (h 16 8 rfl)

/-- What the decoder reads of a word lies inside the bits its command names (R92). -/
theorem decodeCommand_congr {w v : CmdWord} (h : AgreeOn (namedBits (decodeCommand w)) w v) :
    decodeCommand v = decodeCommand w := by
  have hop : opField v = opField w := h 36 4 (namedBits_op w)
  revert h
  unfold decodeCommand
  rw [hop]
  split
  case h_9 => exact decodeBusCommand_congr
  case h_10 =>
    intro h
    have hsel : v.extractLsb' 32 1 = w.extractLsb' 32 1 := h 32 1 (by split <;> simp only [namedBits] <;> decide)
    have hstatus : argByte v = argByte w := h 0 8 (by split <;> simp only [namedBits] <;> decide)
    rw [hsel, hstatus]
  all_goals
    simp only [namedBits]
    intro h
  case h_2 => exact congrArg₂ Instr.cfgw (h 32 4 rfl) (h 0 32 rfl)
  case h_3 => exact congrArg Instr.cfgr (h 32 4 rfl)
  case h_4 => exact congrArg Instr.setfreq (h 0 32 rfl)
  case h_5 => exact congrArg Instr.setbw (h 0 32 rfl)
  case h_6 => exact congrArg Instr.setdev (h 0 32 rfl)
  case h_7 => exact congrArg Instr.setpwr (h 0 8 rfl)
  case h_14 => exact congrArg Instr.strobe (h 0 8 rfl)
  all_goals trivial

/-- Settles O4: flipping unnamed bits leaves every slice inside the named ones as it is. -/
theorem unnamedBitsHaveNoEffect : Obligations.UnnamedBitsHaveNoEffect :=
  fun _ _ h => decodeCommand_congr (agreeOn_xor h)

end Sys2Proof.Machine
end

section
/-! SUPPORT. What the decoder accepts, the sample words, the header byte as a number, and the reserved words
(30_encoding.md R92, R93, R96). -/

namespace Sys2Proof.Machine

/-- Settles O2: a command word admits every operand, and a frame is checked for its address range and length. -/
theorem decodedInstructionsAreWellFormed : Obligations.DecodedInstructionsAreWellFormed :=
  fun _ _ => instr_wf_of_decode

/-- Settles O5, by running the decoder on each word. -/
theorem sampleWordsDecode : Obligations.SampleWordsDecode := by
  unfold Obligations.SampleWordsDecode
  decide

/-- Settles O6: the control bits are 0, 1, 3, and 2 or 3 for a single read, above the six bits of the address. -/
theorem headerByteOfEveryAccess : Obligations.HeaderByteOfEveryAccess := by
  intro a
  refine ⟨?_, ?_, ?_, ?_⟩
  · rw [hdr_write1, header_toNat]
    simp
  · rw [hdr_writeN, header_toNat]
    simp
  · rw [hdr_readN, header_toNat]
    simp
  · rw [hdr_read1, header_toNat]
    simp only [isStatus, decide_eq_true_eq]
    split <;> rfl

/-- Settles O19: the three reserved words have one meaning. -/
theorem reservedOpIsAFatalFault : Obligations.ReservedOpIsAFatalFault := by
  rintro i s (rfl | rfl | rfl) hctl <;> exact runReserved_fatal hctl

end Sys2Proof.Machine
end

section
/-! SUPPORT. The two fields of a status byte, and that nothing else of it is read (30_encoding.md R97, R98;
45_status_interpreter.md R221, R227). -/

namespace Sys2Proof.Machine

theorem statusCount_toNat (status : Byte) : (statusCount status).toNat = status.toNat % 16 := by
  simp [statusCount]

theorem statusCode_toNat (status : Byte) : (statusCode status).toNat = status.toNat / 16 % 8 := slice_toNat status 4 3

/-- The chip state is the entry of `STATE_MAP` at the state code, given as a number. -/
theorem chipState_eq_get (c : Config) {status : Byte} {code : Fin 8} (h : code.val = status.toNat / 16 % 8) :
    chipState c status = c.stateMap.get code :=
  congrArg c.stateMap.get (Fin.ext ((statusCode_toNat status).trans h.symm))

/-- The interpreter reads a status byte through its two fields only. -/
theorem interp_congr {x y : Byte} (hcount : statusCount x = statusCount y) (hcode : statusCode x = statusCode y)
    (trig : Trigger) (s : State) : interp x trig s = interp y trig s := by
  simp only [interp, chipState, hcount, hcode]

/-- Settles O47: neither field of a status byte holds bit 7. -/
theorem statusBitSevenHasNoEffect : Obligations.StatusBitSevenHasNoEffect := by
  intro s x y trig h
  refine interp_congr (BitVec.eq_of_toNat_eq ?_) (BitVec.eq_of_toNat_eq ?_) trig s
  · rw [statusCount_toNat, statusCount_toNat]
    omega
  · rw [statusCode_toNat, statusCode_toNat]
    omega

/-- Code 1 is receive mode in every well-formed `STATE_MAP` (R98). -/
theorem stateMap_one {c : Config} (h : c.wf = true) : c.stateMap.get 1 = .rx := by
  simp only [Config.wf, stateMapWf, Bool.and_eq_true, decide_eq_true_eq] at h
  obtain ⟨⟨-, -, hrx⟩, -⟩ := h
  exact hrx

theorem drains_of_rx {c : Config} {status : Byte} (h : chipState c status = .rx) (trig : Trigger) :
    drains c status trig = (statusCount status != 0 && trig == .read) := by
  simp only [drains, h]

/-- Settles O60: 0x17 has state code 1 and count 7. -/
theorem statusByte17IsReceiveSeven : Obligations.StatusByte17IsReceiveSeven := by
  refine ⟨fun c status code hcode => ⟨statusCount_toNat status, chipState_eq_get c hcode⟩, rfl, fun c hwf => ?_⟩
  have hcount : statusCount 0x17 = 7 := by decide
  have hrx : chipState c 0x17 = .rx := (chipState_eq_get c (code := 1) rfl).trans (stateMap_one hwf)
  refine ⟨hcount, hrx, ?_, ?_⟩ <;> rw [drains_of_rx hrx, hcount] <;> rfl

end Sys2Proof.Machine
end

section
/-! SUPPORT. The frequency word (40_frequency.md R122 to R127): when it reaches a given number, its half step, when
it overflows, and its bytes. -/

namespace Sys2Proof.Machine

/-! ### The word as a number -/

theorem encFreq_eq_div (fc : Nat) {osc : Nat} (h : 0 < osc) : encFreq fc osc = (2 * fc * 65536 + osc) / (2 * osc) :=
  if_neg h.ne'

/-- The word reaches `n` exactly when the carrier lies at most half a step below that of `n`. -/
theorem le_encFreq_iff {n fc osc : Nat} (h : 0 < osc) :
    n ≤ encFreq fc osc ↔ n * (2 * osc) ≤ 2 * fc * 65536 + osc := by
  rw [encFreq_eq_div fc h, Nat.le_div_iff_mul_le (by omega)]

theorem encFreq_mono {fc fc' osc : Nat} (h : 0 < osc) (hle : fc ≤ fc') : encFreq fc osc ≤ encFreq fc' osc := by
  rw [encFreq_eq_div fc h, encFreq_eq_div fc' h]
  exact Nat.div_le_div_right (by omega)

/-- A quotient rounded once is within half of itself, so the word decodes to within half a step of its carrier. -/
theorem encFreq_half_step (fc : Nat) {osc : Nat} (h : 0 < osc) :
    |(encFreq fc osc : ℚ) * osc / 65536 - fc| ≤ (osc : ℚ) / 131072 := by
  have hlow : encFreq fc osc * (2 * osc) ≤ 2 * fc * 65536 + osc := (le_encFreq_iff h).mp le_rfl
  have hhigh : 2 * fc * 65536 + osc < (encFreq fc osc + 1) * (2 * osc) :=
    not_le.mp (mt (le_encFreq_iff h).mpr (Nat.not_succ_le_self _))
  have hlow : (encFreq fc osc : ℚ) * (2 * osc) ≤ 2 * fc * 65536 + osc := by exact_mod_cast hlow
  have hhigh : (2 * fc * 65536 + osc : ℚ) < (encFreq fc osc + 1) * (2 * osc) := by exact_mod_cast hhigh
  rw [abs_le]
  constructor <;> linarith

/-- Settles O56: the three facts of the one integer division. -/
theorem frequencyWordIsWithinHalfAStep : Obligations.FrequencyWordIsWithinHalfAStep :=
  ⟨fun fc _ h => encFreq_eq_floor fc h, fun fc _ h _ => encFreq_half_step fc h, fun _ _ _ h hle => encFreq_mono h hle⟩

/-- Settles O57: the word is monotone in the carrier, so the highest and the lowest clamped target decide. -/
theorem frequencyOverflowBounds : Obligations.FrequencyOverflowBounds := by
  refine ⟨fun hz => ?_, fun osc h => ?_, fun osc h => ?_⟩
  · calc encFreq (clampHz hz) 26000000
        ≤ encFreq 928000000 26000000 := encFreq_mono (by decide) (clampHz_range hz).2
      _ ≤ 2339131 := by decide
  · rw [le_encFreq_iff h]
    omega
  · have hlowest : (∀ hz, 2 ^ 22 ≤ encFreq (clampHz hz) osc) ↔ 2 ^ 22 ≤ encFreq 300000000 osc :=
      ⟨fun hall => hall 300000000, fun hlow hz => hlow.trans (encFreq_mono h (clampHz_range hz).1)⟩
    rw [hlowest, le_encFreq_iff h]
    omega

/-! ### The word of a command -/

/-- The word SETFREQ encodes, as the quotient of R122. -/
theorem setfreq_word_eq {s : State} {osc : Word32} (hz : Word32) (hosc : s.dev.oscHz = some osc) (hosc0 : osc ≠ 0) :
    encFreq (clampHz hz.toNat) s.oscNat =
      ⌊((min (max hz.toNat 300000000) 928000000 : Nat) : ℚ) / ((osc.toNat : ℚ) / 65536) + 1 / 2⌋₊ := by
  rw [oscNat_eq hosc, encFreq_eq_floor _ (by bv_omega)]
  rfl

/-- A field of a number's word is the number shifted down, as long as the field lies in the word. -/
theorem ofNat_slice {n start len : Nat} (w : Nat) (h : start + len ≤ n) :
    (BitVec.ofNat n w).extractLsb' start len = BitVec.ofNat len (w / 2 ^ start) := by
  apply BitVec.eq_of_getLsbD_eq
  intro i hi
  have hn : start + i < n := by omega
  rw [BitVec.getLsbD_extractLsb', BitVec.getLsbD_ofNat, BitVec.getLsbD_ofNat, Nat.testBit_div_two_pow]
  simp [hi, hn, Nat.add_comm]

/-- `FREQ1` as a number (R123). -/
theorem freqByte1_eq (w : Nat) : freqByte1 w = BitVec.ofNat 8 (w / 2 ^ 8) := ofNat_slice w (by omega)

/-- `FREQ0` as a number (R123). -/
theorem freqByte0_eq (w : Nat) : freqByte0 w = BitVec.ofNat 8 w := by
  rw [freqByte0, ofNat_slice w (by omega), pow_zero, Nat.div_one]

end Sys2Proof.Machine
end

section
/-! SUPPORT. SETFREQ on three smooth answers (40_frequency.md R120 to R125). -/

namespace Sys2Proof.Machine

theorem used_used (e : Env) (rest rest' : List Answer) (j k : Nat) :
    (e.used rest j).used rest' k = e.used rest' (j + k) := by
  simp only [Env.used, Nat.add_assoc]

theorem hdr_write1_eq_setWidth (a : Addr) : hdr 0 0 a = a.setWidth 8 := by
  rw [hdr_write1, header_eq_ofNat]
  simp

/-- The state after a single write with a smooth answer: its events, and the answer used. -/
def State.smoothWrite (s : State) (addr : Addr) (v : Byte) (a : Answer) (rest : List Answer) : State :=
  { s with trace := s.trace ++ smoothEvents s.cfg .write1 (addr.setWidth 8) [v] a, env := s.env.used rest 1 }

theorem busWrite1_smooth {s : State} {a : Answer} {rest : List Answer} (addr : Addr) (v : Byte)
    (h : s.env.answers = a :: rest) (hs : Smooth s.cfg .write 0 a) :
    busWrite1 addr v s = .go a (s.smoothWrite addr v a rest) := by
  rw [State.smoothWrite, ← hdr_write1_eq_setWidth]
  exact interpreted_smooth h hs

/-- The three writes of a frequency word, FREQ2 first (R125), each byte as a number. -/
theorem freqWrites_smooth {s : State} {a2 a1 a0 : Answer} {rest : List Answer} (w : Nat)
    (h : s.env.answers = a2 :: a1 :: a0 :: rest) (h2 : Smooth s.cfg .write 0 a2) (h1 : Smooth s.cfg .write 0 a1)
    (h0 : Smooth s.cfg .write 0 a0) :
    freqWrites w s = .go () { s with
      trace := s.trace
        ++ smoothEvents s.cfg .write1 (s.cfg.reg.freq2.setWidth 8) [BitVec.ofNat 8 (w / 2 ^ 16)] a2
        ++ smoothEvents s.cfg .write1 (s.cfg.reg.freq1.setWidth 8) [BitVec.ofNat 8 (w / 2 ^ 8)] a1
        ++ smoothEvents s.cfg .write1 (s.cfg.reg.freq0.setWidth 8) [BitVec.ofNat 8 w] a0
      env := s.env.used rest 3 } := by
  rw [freqWrites, busWrite1_smooth _ _ h h2, Run.bind_go]
  rw [busWrite1_smooth (s := s.smoothWrite _ _ a2 _) _ _ rfl h1, Run.bind_go]
  rw [busWrite1_smooth (s := (s.smoothWrite _ _ a2 _).smoothWrite _ _ a1 _) _ _ rfl h0, Run.bind_go]
  simp only [State.smoothWrite, used_used, freqByte2_eq, freqByte1_eq, freqByte0_eq]

/-- Settles O25: the word fits, the three writes go on, and the carrier is recorded after them. -/
theorem setfreqProgramsTheCarrier : Obligations.SetfreqProgramsTheCarrier := by
  intro s hz osc a2 a1 a0 rest fc w hctl hosc hosc0 hans h2 h1 h0 hfc hw hlt
  subst hfc
  have hword : encFreq (clampHz hz.toNat) s.oscNat = w := (setfreq_word_eq hz hosc hosc0).trans hw.symm
  have hfits : freqOverflow (encFreq (clampHz hz.toNat) s.oscNat) = false :=
    freqOverflow_eq_false_iff.mpr (hword ▸ hlt)
  have hbody := setfreqBody_fits hfits
  rw [hword, freqWrites_smooth w hans h2 h1 h0, Run.bind_go] at hbody
  have hexec : exec (.setfreq hz) s = finish (setfreqBody hz s) := runCmd_admitted (admits_radio hctl)
  rw [hexec, hbody, finish_go]
  rfl

end Sys2Proof.Machine
end

section
/-! SUPPORT. The fatal preconditions of the commands (40_frequency.md R126, 43_power.md R181 and R184,
44_modulation.md R202, 46_controller.md R252): each stops its command in the state it started from. -/

namespace Sys2Proof.Machine

/-- An admitted command whose check fails: the fault entry of R313 on the state it started from. -/
theorem runCmd_fatal {g : CmdGroup} {body : State → Run Word32} {s : State} {c : FatalCode}
    (hadm : admits g s.ctl = true) (h : body s = .stop (.fatal c) s) : runCmd g body s = .next (s.raiseFatal c) := by
  rw [runCmd_admitted hadm, h, finish_fatal]

/-- The reserved codes as numbers (R202). -/
theorem modReserved_iff (modem : Byte) : modReserved (modField modem) = true ↔
    modem.toNat % 8 = 2 ∨ modem.toNat % 8 = 5 ∨ modem.toNat % 8 = 6 := by
  simp [modReserved, modField, ← BitVec.toNat_inj, or_assoc]

/-- Settles O21: each precondition by the branch of its pseudocode. -/
theorem preconditionFaultsHaveNoOtherEffect : Obligations.PreconditionFaultsHaveNoOtherEffect := by
  rintro s _ code rfl
  refine ⟨fun hctl => ⟨?_, ?_, ?_, ?_⟩, ?_⟩
  · rintro hz osc rfl hosc hosc0 hw
    rw [← setfreq_word_eq hz hosc hosc0] at hw
    exact runCmd_fatal (admits_radio hctl) (setfreqBody_overflow (decide_eq_true hw))
  · rintro dbm rfl hunset
    exact runCmd_fatal (admits_radio hctl) (setpwrBody_unset hunset)
  · rintro dbm f b rfl hf rfl hl
    exact runCmd_fatal (admits_radio hctl) (setpwrBody_badTable hf hl)
  · rintro rfl hm
    exact runCmd_fatal (admits_radio hctl) (setmodBody_reserved ((modReserved_iff _).mpr hm))
  · rintro hctl rfl hosc
    exact (execInit_eq hctl).trans (congrArg finish (initBody_badOscillator hosc))

end Sys2Proof.Machine
end

section
/-! SUPPORT. What a failed SETFREQ and a failed SETPWR leave (40_frequency.md R124, 43_power.md R185 and R186,
60_exceptions.md R312). -/

namespace Sys2Proof.Machine

/-- Wherever SETFREQ stops, its carrier is not recorded yet. -/
theorem setfreqBody_stop_dev {hz : Word32} {s u : State} {w : Stop} (h : setfreqBody hz s = .stop w u) :
    u.dev = s.dev := by
  cases hw : freqOverflow (encFreq (clampHz hz.toNat) s.oscNat) with
  | true =>
    rw [setfreqBody_overflow hw] at h
    cases h
    rfl
  | false =>
    rw [setfreqBody_fits hw] at h
    rcases Run.bind_eq_stop h with hstop | ⟨_, _, -, hgo⟩
    · have hmeets := (freqWrites_sends (encFreq (clampHz hz.toNat) s.oscNat) s).meets
      rw [hstop] at hmeets
      exact hmeets.traffic.dev
    · cases hgo

theorem execSetfreq_unsuccessful_dev {hz : Word32} {s t : State} (h : execSetfreq hz s = .next t)
    (hok : t.ok = false) : t.dev = s.dev := by
  rcases runCmd_eq_next h with ⟨-, rfl⟩ | ⟨-, hfinish⟩
  · rfl
  · rcases finish_eq_next hfinish with ⟨_, _, -, rfl⟩ | ⟨_, _, hstop, rfl⟩ | ⟨_, _, hstop, rfl⟩
    · cases hok
    · rw [complete_dev, setfreqBody_stop_dev hstop]
    · rw [raiseFatal_dev, setfreqBody_stop_dev hstop]

/-- SETPWR stages DeviceState and nothing else before its burst. -/
theorem staged_eq {s : State} {f : Word32} {dbm v : Byte}
    (hv : (s.cfg.paTab.get (band f.toNat))[paIndex (band f.toNat) dbm.toInt]? = some v) :
    s.staged f dbm = { s with dev := s.dev.staged (band f.toNat) s.radio.modem v } :=
  congrArg (fun d => { s with dev := d }) (staged_dev hv)

/-- SETPWR, its burst failing: nothing is sent but that burst of the staged buffer. -/
theorem execSetpwr_failed {dbm : Byte} {s : State} {f : Word32} {a : Answer} {rest : List Answer}
    (hctl : s.ctl = .idleReady ∨ s.ctl = .receiving) (hf : s.dev.freqHz = some f) (hl : paTableFits s.cfg f)
    (h : s.env.answers = a :: rest) (hfail : a.ok = false) (hn : a.data.length = 0) :
    execSetpwr dbm s = .next (((s.staged f dbm).exchanged .writeN (hdr 0 1 s.cfg.reg.patable)
      (s.staged f dbm).dev.paBuf.toList a rest).complete false 0x02) :=
  runCmd_failed (admits_radio hctl) (setpwrBody_staged hf hl) h hfail hn

/-- SETPWR whatever the bus answers: it ends, and leaves what it has staged. -/
theorem execSetpwr_leaves_staged {dbm : Byte} {s : State} {f : Word32}
    (hctl : s.ctl = .idleReady ∨ s.ctl = .receiving) (hf : s.dev.freqHz = some f) (hl : paTableFits s.cfg f) :
    ∃ t, execSetpwr dbm s = .next t ∧ t.dev = (s.staged f dbm).dev ∧ t.radio = s.radio ∧ t.ctl = s.ctl ∧
      t.fault = s.fault ∧ (t.ok = false → t.res = 0x02) := by
  have hmeets := (setpwrBody_sends (dbm := dbm) hf hl).meets
  rw [execSetpwr, runCmd_admitted (admits_radio hctl)]
  cases hr : setpwrBody dbm s with
  | go v u =>
    rw [hr] at hmeets
    obtain ⟨ht, -⟩ := hmeets
    exact ⟨_, finish_go v u, ht.dev, ht.radio, ht.ctl, ht.fault, fun hok => by cases hok⟩
  | stop w u =>
    rw [hr] at hmeets
    obtain ⟨rfl, ht, -⟩ := hmeets
    exact ⟨_, finish_fail _ u, ht.dev, ht.radio, ht.ctl, ht.fault, fun _ => rfl⟩

/-- Settles O30: no stop of SETFREQ lies after its record of the carrier, and every end of SETPWR lies after its
staging. -/
theorem carrierIsRecordedLastPowerIsStagedFirst : Obligations.CarrierIsRecordedLastPowerIsStagedFirst := by
  refine ⟨fun s t hz => execSetfreq_unsuccessful_dev, ?_, ?_⟩
  · rintro s dbm f a rest _ v _ hctl hf hans hfail hdata rfl hl hv rfl
    have h : exec (.setpwr dbm) s = _ := execSetpwr_failed hctl hf hl hans hfail (by rw [hdata]; rfl)
    rwa [staged_eq hv] at h
  · rintro s dbm f b v hctl hf hb hl hv
    obtain rfl : b = band f.toNat := hb
    rw [← staged_dev hv]
    exact execSetpwr_leaves_staged hctl hf hl

end Sys2Proof.Machine
end

section
/-! SUPPORT. The selection rule on any table (41_bandwidth.md R143), and on a strictly descending one the first of the
nearest candidates, whether the scan starts at 0 or at 1. -/

namespace Sys2Proof.Machine

/-! ### The rule by its two cases -/

section Rule

variable {table : List ℚ} {start k : Nat} {t : ℚ}

/-- The scan finds nothing exactly when no entry from its start on is below the target. -/
theorem firstBelow_eq_none_iff :
    firstBelow table start t = none ↔ ∀ j, start ≤ j → ∀ x, table[j]? = some x → t ≤ x := by
  simp only [firstBelow, Option.map_eq_none_iff, List.findIdx?_eq_none_iff, decide_eq_false_iff_not, not_lt,
    List.mem_iff_getElem?, List.getElem?_drop]
  constructor
  · intro h j hj x hx
    exact h x ⟨j - start, by rwa [Nat.add_sub_cancel' hj]⟩
  · rintro h x ⟨j, hx⟩
    exact h (start + j) (Nat.le_add_right _ _) x hx

/-- The scan finds the first entry from its start on that is below the target. -/
theorem firstBelow_eq_some_iff :
    firstBelow table start t = some k ↔ start ≤ k ∧ (∃ x, table[k]? = some x ∧ x < t) ∧
      ∀ j, start ≤ j → j < k → ∀ y, table[j]? = some y → t ≤ y := by
  simp only [firstBelow, Option.map_eq_some_iff, List.findIdx?_eq_some_iff_getElem, List.getElem_drop,
    List.length_drop, decide_eq_true_eq, not_lt]
  constructor
  · rintro ⟨i, ⟨hi, hlt, hbefore⟩, rfl⟩
    refine ⟨Nat.le_add_left _ _, ⟨_, List.getElem?_eq_getElem (by omega), ?_⟩, fun j hj hjk y hy => ?_⟩
    · simpa only [Nat.add_comm] using hlt
    · obtain ⟨i', rfl⟩ := Nat.exists_eq_add_of_le hj
      obtain ⟨-, rfl⟩ := List.getElem?_eq_some_iff.mp hy
      exact hbefore i' (by omega)
  · rintro ⟨hk, ⟨x, hx, hlt⟩, hbefore⟩
    obtain ⟨i, rfl⟩ := Nat.exists_eq_add_of_le hk
    obtain ⟨hlen, rfl⟩ := List.getElem?_eq_some_iff.mp hx
    exact ⟨i, ⟨by omega, hlt, fun j hj => hbefore (start + j) (by omega) (by omega) _
      (List.getElem?_eq_getElem (by omega))⟩, Nat.add_comm _ _⟩

theorem nearestSelect_of_none (h : firstBelow table start t = none) :
    nearestSelect table start t = table.length - 1 := by
  simp only [nearestSelect, h]

theorem nearestSelect_of_zero (h : firstBelow table start t = some 0) : nearestSelect table start t = 0 := by
  simp only [nearestSelect, h]

theorem nearestSelect_of_succ {p : Nat} {x y : ℚ} (h : firstBelow table start t = some (p + 1))
    (hy : table[p]? = some y) (hx : table[p + 1]? = some x) :
    nearestSelect table start t = if |t - y| ≤ |t - x| then p else p + 1 := by
  simp only [nearestSelect, h, List.getD_eq_getElem?_getD, hx, hy, Option.getD_some]

end Rule

/-! ### The first of the nearest candidates -/

/-- Of the candidates `c 0, …, c (n - 1)`, `i` is the first of those nearest to the target. -/
structure FirstNearest (c : Nat → ℚ) (n : Nat) (t : ℚ) (i : Nat) : Prop where
  lt : i < n
  before : ∀ j < i, |t - c i| < |t - c j|
  after : ∀ j < n, i < j → |t - c i| ≤ |t - c j|

section FirstNearest

variable {c : Nat → ℚ} {n i j : Nat} {t : ℚ}

theorem FirstNearest.le (h : FirstNearest c n t i) (hj : j < n) : |t - c i| ≤ |t - c j| := by
  rcases lt_trichotomy j i with hlt | rfl | hgt
  · exact (h.before j hlt).le
  · exact le_rfl
  · exact h.after j hj hgt

theorem FirstNearest.le_of_tie (h : FirstNearest c n t i) (htie : |t - c j| = |t - c i|) : i ≤ j :=
  not_lt.mp fun hlt => (h.before j hlt).ne' htie

theorem FirstNearest.unique (hi : FirstNearest c n t i) (hj : FirstNearest c n t j) : i = j := by
  have htie : |t - c j| = |t - c i| := le_antisymm (hj.le hi.lt) (hi.le hj.lt)
  exact le_antisymm (hi.le_of_tie htie) (hj.le_of_tie htie.symm)

/-- Of two values below the target the greater is nearer. -/
theorem abs_sub_lt_of_below {x y : ℚ} (hx : x < t) (hyx : y < x) : |t - x| < |t - y| := by
  rw [abs_of_pos (sub_pos.mpr hx), abs_of_pos (sub_pos.mpr (hyx.trans hx))]
  linarith

/-- Of two values not below the target the smaller is nearer. -/
theorem abs_sub_lt_of_above {x y : ℚ} (hx : t ≤ x) (hxy : x < y) : |t - x| < |t - y| := by
  rw [abs_of_nonpos (sub_nonpos.mpr hx), abs_of_nonpos (sub_nonpos.mpr (hx.trans hxy.le))]
  linarith

/-- Every candidate is at or above the target: the last is the nearest. -/
theorem FirstNearest.last (hc : StrictAnti c) (hn : 0 < n) (h : t ≤ c (n - 1)) : FirstNearest c n t (n - 1) where
  lt := by omega
  before _ hj := abs_sub_lt_of_above h (hc hj)
  after _ hj hlt := by omega

/-- Every candidate is below the target: the first is the nearest. -/
theorem FirstNearest.zero (hc : StrictAnti c) (hn : 0 < n) (h : c 0 < t) : FirstNearest c n t 0 where
  lt := hn
  before _ hj := absurd hj (Nat.not_lt_zero _)
  after _ _ hlt := (abs_sub_lt_of_below h (hc hlt)).le

/-- The target lies above candidate `p + 1`, and not above candidate `p` unless that is the first: one of the two is the
nearest, the first of them on a tie. -/
theorem FirstNearest.of_pair {p : Nat} (hc : StrictAnti c) (hn : p + 1 < n) (hbelow : c (p + 1) < t)
    (habove : p = 0 ∨ t ≤ c p) :
    FirstNearest c n t (if |t - c p| ≤ |t - c (p + 1)| then p else p + 1) := by
  have hbefore : ∀ j < p, |t - c p| < |t - c j| := fun j hj =>
    abs_sub_lt_of_above (habove.resolve_left (by omega)) (hc hj)
  have hafter : ∀ j, p + 1 < j → |t - c (p + 1)| < |t - c j| := fun j hj => abs_sub_lt_of_below hbelow (hc hj)
  split
  · rename_i hle
    refine ⟨by omega, hbefore, fun j _ hj => ?_⟩
    rcases (Nat.succ_le_of_lt hj).eq_or_lt with rfl | hlt
    · exact hle
    · exact hle.trans (hafter j hlt).le
  · rename_i hgt
    refine ⟨hn, fun j hj => ?_, fun j _ hj => (hafter j hj).le⟩
    rcases (Nat.le_of_lt_succ hj).eq_or_lt with rfl | hlt
    · exact not_le.mp hgt
    · exact (not_le.mp hgt).trans (hbefore j hlt)

/-- On a strictly descending table the rule selects the first of the nearest candidates, from either start of the
scan: the predecessor is looked at where the scan stops, so the first candidate may be left out of it (R147). -/
theorem nearestSelect_firstNearest {start : Nat} (hc : StrictAnti c) (hstart : start ≤ 1) (hn : start < n) :
    FirstNearest c n t (nearestSelect ((List.range n).map c) start t) := by
  have hentry : ∀ j < n, ((List.range n).map c)[j]? = some (c j) := fun j hj => by simp [hj]
  cases hscan : firstBelow ((List.range n).map c) start t with
  | none =>
    have hlast : t ≤ c (n - 1) := firstBelow_eq_none_iff.mp hscan (n - 1) (by omega) _ (hentry _ (by omega))
    simpa only [nearestSelect_of_none hscan, List.length_map, List.length_range] using
      FirstNearest.last hc (by omega) hlast
  | some k =>
    obtain ⟨-, ⟨x, hx, hlt⟩, habove⟩ := firstBelow_eq_some_iff.mp hscan
    have hk : k < n := by simpa using (List.getElem?_eq_some_iff.mp hx).1
    obtain rfl : c k = x := Option.some.inj ((hentry k hk).symm.trans hx)
    cases k with
    | zero =>
      rw [nearestSelect_of_zero hscan]
      exact FirstNearest.zero hc hk hlt
    | succ p =>
      rw [nearestSelect_of_succ hscan (hentry p (by omega)) (hentry (p + 1) hk)]
      refine FirstNearest.of_pair hc hk hlt ((Nat.eq_zero_or_pos p).imp_right fun hp => ?_)
      exact habove p (by omega) (by omega) _ (hentry p (by omega))

end FirstNearest

end Sys2Proof.Machine
end

section
/-! SUPPORT. The bandwidth table and its merge into MDMCFG4 (41_bandwidth.md R141, R142, R145, R147). -/

namespace Sys2Proof.Machine

/-! ### The table -/

theorem bwTable_length (osc : Nat) : (bwTable osc).length = 16 := by simp [bwTable]

/-- Entry `4 e + m` (R142). -/
theorem bwTable_getElem? (osc : Nat) {e m : Nat} (he : e < 4) (hm : m < 4) :
    (bwTable osc)[4 * e + m]? = some (bwCand e m osc) := by
  have hk : 4 * e + m < 16 := by omega
  have hdiv : (4 * e + m) / 4 = e := by omega
  have hmod : (4 * e + m) % 4 = m := by omega
  simp [bwTable, hk, hdiv, hmod]

/-- The divisor of candidate `i` (R142). -/
def bwDivisor (i : Nat) : Nat := 8 * (4 + i % 4) * 2 ^ (i / 4)

theorem bwCand_eq_div (osc i : Nat) : bwCand (i / 4) (i % 4) osc = (osc : ℚ) / bwDivisor i := by
  simp [bwCand, bwDivisor]

/-- The divisors ascend: within an exponent by the mantissa, and from 7 to twice 4 where the exponent changes. -/
theorem bwDivisor_strictMono : StrictMono bwDivisor := by
  refine strictMono_nat_of_lt_succ fun i => ?_
  have hpos : 0 < 2 ^ (i / 4) := by positivity
  unfold bwDivisor
  by_cases h : i % 4 = 3
  · have hdiv : (i + 1) / 4 = i / 4 + 1 := by omega
    have hmod : (i + 1) % 4 = 0 := by omega
    rw [hdiv, hmod, h, pow_succ]
    omega
  · have hdiv : (i + 1) / 4 = i / 4 := by omega
    have hmod : (i + 1) % 4 = i % 4 + 1 := by omega
    rw [hdiv, hmod]
    gcongr
    omega

/-- The candidates strictly descend (R142). -/
theorem bwCand_strictAnti {osc : Nat} (h : 0 < osc) : StrictAnti fun i => bwCand (i / 4) (i % 4) osc := by
  intro i j hij
  have hpos : (0 : ℚ) < bwDivisor i := by
    unfold bwDivisor
    positivity
  have hdiv : (bwDivisor i : ℚ) < bwDivisor j := by exact_mod_cast bwDivisor_strictMono hij
  simp only [bwCand_eq_div]
  exact div_lt_div_of_pos_left (by exact_mod_cast h) hpos hdiv

/-- The bandwidth index is the first of the nearest candidates, from either start of the scan (R147). -/
theorem bwIndex_firstNearest {osc start : Nat} (h : 0 < osc) (hstart : start ≤ 1) (t : ℚ) :
    FirstNearest (fun i => bwCand (i / 4) (i % 4) osc) 16 t (nearestSelect (bwTable osc) start t) :=
  nearestSelect_firstNearest (bwCand_strictAnti h) hstart (by omega)

theorem encBw_lt (t osc : Nat) : encBw t osc < 16 := by
  have hlen := bwTable_length osc
  rw [← hlen]
  exact nearestSelect_lt (List.ne_nil_of_length_pos (by omega)) _ _

/-! ### The merge -/

/-- `Merge4(i, old)` as a number, for the indices of the table (R145). -/
theorem merge4_toNat {i : Nat} (h : i < 16) (old : Byte) : (merge4 i old).toNat = 16 * i + old.toNat % 16 := by
  have hlow : (old &&& 0x0F#8).toNat = old.toNat % 2 ^ 4 := Nat.and_two_pow_sub_one_eq_mod old.toNat 4
  have hhigh : (BitVec.ofNat 8 i <<< 4).toNat = i <<< 4 := by
    rw [BitVec.toNat_shiftLeft, BitVec.toNat_ofNat, Nat.shiftLeft_eq, Nat.shiftLeft_eq]
    omega
  rw [merge4, BitVec.toNat_or, hlow, hhigh, ← Nat.shiftLeft_add_eq_or_of_lt (Nat.mod_lt _ (by omega)),
    Nat.shiftLeft_eq]
  omega

theorem merge4_eq {i : Nat} (h : i < 16) (old : Byte) :
    merge4 i old = BitVec.ofNat 8 (16 * i + old.toNat % 16) := by
  rw [← merge4_toNat h old, BitVec.ofNat_toNat, BitVec.setWidth_eq]

/-- Settles O58: the rule by the two ends of its scan; and on the bandwidth table, whose candidates strictly descend,
the first of the nearest, which is one index whatever the start. -/
theorem bandwidthIndexIsNearest : Obligations.BandwidthIndexIsNearest := by
  refine ⟨fun table start t => ⟨fun h => ?_, fun k x hk hx hlt hbefore => ?_⟩,
    fun osc => ⟨bwTable_length osc, fun e m => bwTable_getElem? osc⟩, ?_, fun i old hi => ?_⟩
  · exact nearestSelect_of_none (firstBelow_eq_none_iff.mpr h)
  · have hscan : firstBelow table start t = some k := firstBelow_eq_some_iff.mpr ⟨hk, ⟨x, hx, hlt⟩, hbefore⟩
    cases k with
    | zero => exact ⟨fun _ => nearestSelect_of_zero hscan, fun _ hne => absurd rfl hne⟩
    | succ p => exact ⟨fun h0 => absurd h0 p.succ_ne_zero, fun y _ hy => nearestSelect_of_succ hscan hy hx⟩
  · rintro osc t i cand hosc - hcand rfl
    have hcand' : ∀ j < 16, cand j = bwCand (j / 4) (j % 4) osc := fun j hj => by
      simpa only [Nat.div_add_mod, bwCand] using hcand (j / 4) (j % 4) (by omega) (by omega)
    have hnearest := bwIndex_firstNearest hosc (start := 0) (by omega) t
    refine ⟨hnearest.lt, fun j hj => ?_, fun j hj htie => ?_,
      (bwIndex_firstNearest hosc le_rfl t).unique hnearest⟩
    · rw [hcand' _ hnearest.lt, hcand' j hj]
      exact hnearest.le hj
    · rw [hcand' _ hnearest.lt, hcand' j hj] at htie
      exact hnearest.le_of_tie htie
  · rw [merge4_toNat hi]
    omega

end Sys2Proof.Machine
end

section
/-! SUPPORT. SETBW on two smooth answers (41_bandwidth.md R140, R144 to R146). -/

namespace Sys2Proof.Machine

/-- The state after a single read with a smooth answer: its events, and the answer used. -/
def State.smoothRead (s : State) (addr : Addr) (a : Answer) (rest : List Answer) : State :=
  { s with trace := s.trace ++ smoothEvents s.cfg .read1 (hdr 1 0 addr) [] a, env := s.env.used rest 1 }

theorem busRead1_smooth {s : State} {a : Answer} {rest : List Answer} (addr : Addr)
    (h : s.env.answers = a :: rest) (hs : Smooth s.cfg .read 1 a) :
    busRead1 addr s = .go a (s.smoothRead addr a rest) :=
  interpreted_smooth h hs

theorem answer_byte_of_data {a : Answer} {b : Byte} (h : a.data = [b]) : a.byte = b := by
  rw [Answer.byte, h]
  rfl

/-- SETBW's procedure: the byte it reads, with its high nibble replaced, is written back and answered. -/
theorem setbwBody_smooth {s : State} {hz osc : Word32} {old : Byte} {ar aw : Answer} {rest : List Answer}
    (hosc : s.dev.oscHz = some osc) (h : s.env.answers = ar :: aw :: rest) (hold : ar.data = [old])
    (hr : Smooth s.cfg .read 1 ar) (hw : Smooth s.cfg .write 0 aw) :
    setbwBody hz s = .go ((merge4 (encBw hz.toNat osc.toNat) old).setWidth 32)
      ((s.smoothRead s.cfg.reg.mdmcfg4 ar (aw :: rest)).smoothWrite s.cfg.reg.mdmcfg4
        (merge4 (encBw hz.toNat osc.toNat) old) aw rest) := by
  rw [setbwBody, busRead1_smooth _ h hr, Run.bind_go, oscNat_eq hosc, answer_byte_of_data hold]
  dsimp only
  rw [busWrite1_smooth (s := s.smoothRead _ ar _) _ _ rfl hw, Run.bind_go]

/-- Settles O26: the read and the write go on, and the byte written is the merged one. -/
theorem setbwReplacesTheHighNibble : Obligations.SetbwReplacesTheHighNibble := by
  intro s hz osc old ar aw rest i new hctl hosc hans hold hr hw hi hnew
  have hmerge : merge4 (encBw hz.toNat osc.toNat) old = new := by
    rw [merge4_eq (encBw_lt _ _), hnew, hi, encBw]
  have hbody := setbwBody_smooth (hz := hz) hosc hans hold hr hw
  have hexec : exec (.setbw hz) s = finish (setbwBody hz s) := runCmd_admitted (admits_radio hctl)
  rw [hexec, hbody, hmerge, finish_go, BitVec.ofNat_toNat]
  simp only [State.smoothRead, State.smoothWrite, used_used]
  rfl

end Sys2Proof.Machine
end

section
/-! SUPPORT. SETDEV on a smooth answer (42_deviation.md R160, R163, R165). -/

namespace Sys2Proof.Machine

/-- SETDEV's procedure: the byte of the selected index is written and answered. -/
theorem setdevBody_smooth {s : State} {hz osc : Word32} {a : Answer} {rest : List Answer}
    (hosc : s.dev.oscHz = some osc) (h : s.env.answers = a :: rest) (hs : Smooth s.cfg .write 0 a) :
    setdevBody hz s = .go ((devByte (encDev s.cfg.devTable hz.toNat osc.toNat)).setWidth 32)
      (s.smoothWrite s.cfg.reg.deviatn (devByte (encDev s.cfg.devTable hz.toNat osc.toNat)) a rest) := by
  rw [setdevBody, oscNat_eq hosc, busWrite1_smooth _ _ h hs, Run.bind_go]

/-- Settles O27: the one write goes on; a well-formed table has 56 entries, so both fields of the selected index fit
the byte written. -/
theorem setdevWritesTheDeviationByte : Obligations.SetdevWritesTheDeviationByte := by
  intro s hz osc a rest k d hctl hosc hans hs hwf hk hd
  have hbyte : devByte (encDev s.cfg.devTable hz.toNat osc.toNat) = d := by
    rw [devByte_eq (encDev_lt hwf _ _), hd, hk, encDev]
  have hexec : exec (.setdev hz) s = finish (setdevBody hz s) := runCmd_admitted (admits_radio hctl)
  rw [hexec, setdevBody_smooth hosc hans hs, hbyte, finish_go, BitVec.ofNat_toNat]
  rfl

end Sys2Proof.Machine
end

section
/-! SUPPORT. SETPWR on a smooth answer (43_power.md R180, R182, R184 to R186). -/

namespace Sys2Proof.Machine

/-- A byte below a shifted word is added to it. -/
theorem shiftLeft_or_byte (w : Word32) (v : Byte) :
    (w <<< 8) ||| v.setWidth 32 = BitVec.ofNat 32 (256 * w.toNat + v.toNat) := by
  have hdisjoint : (w <<< 8) &&& v.setWidth 32 = 0#32 := by
    ext i hi
    by_cases hlow : i < 8
    · simp [hlow]
    · simp [BitVec.getLsbD_of_ge v i (by omega)]
  rw [← BitVec.add_eq_or_of_and_eq_zero _ _ hdisjoint, ← BitVec.toNat_inj]
  simp [BitVec.toNat_shiftLeft, Nat.shiftLeft_eq, Nat.mul_comm]

/-- The state after a burst write with a smooth answer: its events, and the answer used. -/
def State.smoothWriteN (s : State) (addr : Addr) (payload : List Byte) (a : Answer) (rest : List Answer) : State :=
  { s with trace := s.trace ++ smoothEvents s.cfg .writeN (hdr 0 1 addr) payload a, env := s.env.used rest 1 }

theorem busWriteN_smooth {s : State} {a : Answer} {rest : List Answer} (addr : Addr) (payload : List Byte)
    (h : s.env.answers = a :: rest) (hs : Smooth s.cfg .write 0 a) :
    busWriteN addr payload s = .go a (s.smoothWriteN addr payload a rest) :=
  interpreted_smooth h hs

/-- The table byte of SETPWR is the entry at the power's index (R183). -/
theorem paByte_eq {c : Config} {f : Word32} {dbm v : Byte}
    (hv : (c.paTab.get (band f.toNat))[paIndex (band f.toNat) dbm.toInt]? = some v) : paByte c f dbm = v := by
  rw [paByte, List.getD_eq_getElem?_getD, hv, Option.getD_some]

/-- SETPWR's procedure: the buffer is staged, sent in one burst, and the band and the entry are answered. -/
theorem setpwrBody_smooth {dbm v : Byte} {s : State} {f : Word32} {a : Answer} {rest : List Answer}
    (hf : s.dev.freqHz = some f) (hl : paTableFits s.cfg f)
    (hv : (s.cfg.paTab.get (band f.toNat))[paIndex (band f.toNat) dbm.toInt]? = some v)
    (h : s.env.answers = a :: rest) (hs : Smooth s.cfg .write 0 a) :
    setpwrBody dbm s = .go (BitVec.ofNat 32 (256 * (band f.toNat).val + v.toNat))
      ((s.staged f dbm).smoothWriteN s.cfg.reg.patable (s.staged f dbm).dev.paBuf.toList a rest) := by
  have hband : (BitVec.ofNat 32 (band f.toNat).val).toNat = (band f.toNat).val :=
    (BitVec.toNat_ofNat _ _).trans (Nat.mod_eq_of_lt (by omega))
  rw [setpwrBody_staged hf hl, busWriteN_smooth (s := s.staged f dbm) _ _ h hs, Run.bind_go, paByte_eq hv,
    shiftLeft_or_byte, hband]

/-- Settles O28: the burst goes on, on a state that differs in the staged DeviceState only. -/
theorem setpwrStagesAndBursts : Obligations.SetpwrStagesAndBursts := by
  rintro s dbm f a rest b v hctl hf hans hs hb hl hv _ rfl
  obtain rfl : b = band f.toNat := hb
  have hexec : exec (.setpwr dbm) s = finish (setpwrBody dbm s) := runCmd_admitted (admits_radio hctl)
  rw [hexec, setpwrBody_smooth hf hl hv hans hs, finish_go, staged_eq hv]
  rfl

end Sys2Proof.Machine
end

section
/-! SUPPORT. The power index on the two lists of breakpoints (43_power.md R183). -/

namespace Sys2Proof.Machine

/-- A scan with `k` breakpoints already passed: the next one ends it there, or is passed too. -/
theorem findIdx_breakpoint_cons (dbm x : Int) (xs : List Int) (k : Nat) :
    (x :: xs).findIdx (fun y => decide (dbm ≤ y)) + k =
      if dbm ≤ x then k else xs.findIdx (fun y => decide (dbm ≤ y)) + (k + 1) := by
  by_cases h : dbm ≤ x
  · simp [List.findIdx_cons, h]
  · simp [List.findIdx_cons, h, Nat.add_right_comm, Nat.add_assoc]

/-- Settles O29: the scan of each list, breakpoint by breakpoint. -/
theorem powerIndexFollowsTheBreakpoints : Obligations.PowerIndexFollowsTheBreakpoints := by
  intro b dbm
  rw [paIndex, paBreakpoints, ← Nat.add_zero (List.findIdx _ _)]
  by_cases hb : b.val ≤ 1
  · rw [if_pos hb, if_pos hb, paBp8]
    simp only [findIdx_breakpoint_cons, List.findIdx_nil, Nat.zero_add, Nat.reduceAdd]
  · rw [if_neg hb, if_neg hb, paBp10]
    simp only [findIdx_breakpoint_cons, List.findIdx_nil, Nat.zero_add, Nat.reduceAdd]

end Sys2Proof.Machine
end

section
/-! SUPPORT. SETMOD on three smooth answers (44_modulation.md R200, R205, R206). -/

namespace Sys2Proof.Machine

theorem modReserved_eq_false_iff (m : BitVec 3) :
    modReserved m = false ↔ m ≠ 0b010 ∧ m ≠ 0b101 ∧ m ≠ 0b110 := by
  simp [modReserved, and_assoc]

/-- SETMOD's procedure: the MDMCFG2 byte is written, and the front-end byte is read, changed in its slot bit and written
back. -/
theorem setmodBody_smooth {s : State} {fe : Byte} {am ar aw : Answer} {rest : List Answer}
    (hmod : modReserved (modField s.radio.modem) = false)
    (h : s.env.answers = am :: ar :: aw :: rest) (hfe : ar.data = [fe])
    (hm : Smooth s.cfg .write 0 am) (hr : Smooth s.cfg .read 1 ar) (hw : Smooth s.cfg .write 0 aw) :
    setmodBody s = .go
      (BitVec.ofNat 32 (256 * (paSlotBit s.cfg.frend0PaBit fe (modField s.radio.modem)).toNat
        + (modemByte s.cfg.mdmcfg2 s.radio.modem).toNat))
      (((s.smoothWrite s.cfg.reg.mdmcfg2 (modemByte s.cfg.mdmcfg2 s.radio.modem) am (ar :: aw :: rest)).smoothRead
        s.cfg.reg.frend0 ar (aw :: rest)).smoothWrite s.cfg.reg.frend0
        (paSlotBit s.cfg.frend0PaBit fe (modField s.radio.modem)) aw rest) := by
  simp only [setmodBody, hmod, Bool.false_eq_true, if_false]
  rw [busWrite1_smooth _ _ h hm, Run.bind_go]
  rw [busRead1_smooth (s := s.smoothWrite _ _ am _) _ rfl hr, Run.bind_go, answer_byte_of_data hfe]
  rw [busWrite1_smooth (s := (s.smoothWrite _ _ am _).smoothRead _ ar _) _ _ rfl hw, Run.bind_go]
  rw [shiftLeft_or_byte, BitVec.toNat_setWidth_of_le (by decide)]

/-- Settles O31: the code passes the check, and the two writes and the read between them go on. -/
theorem setmodWritesBothBytes : Obligations.SetmodWritesBothBytes := by
  intro s fe am ar aw rest m2 fe2 hctl hans hfe hm hr hw h2 h5 h6 hm2 hfe2
  have hslot : paSlotBit s.cfg.frend0PaBit fe (modField s.radio.modem) = fe2 := hfe2.symm
  have hbody := setmodBody_smooth ((modReserved_eq_false_iff _).mpr ⟨h2, h5, h6⟩) hans hfe hm hr hw
  have hexec : exec .setmod s = finish (setmodBody s) := runCmd_admitted (admits_radio hctl)
  rw [hexec, hbody, hslot, ← hm2, finish_go]
  simp only [State.smoothRead, State.smoothWrite, used_used]
  rfl

end Sys2Proof.Machine
end

section
/-! SUPPORT. The fields of the MDMCFG2 byte: a well-formed layout keeps them apart, so each is read back at its place
(44_modulation.md R203, R204; 10_state.md R27; log 29). -/

namespace Sys2Proof

/-- The `n` bit positions from `p` on. -/
def bitsAt (p n : Nat) : Finset Nat := Finset.Ico p (p + n)

theorem mem_bitsAt {p n i : Nat} : i ∈ bitsAt p n ↔ p ≤ i ∧ i < p + n := Finset.mem_Ico

theorem bitsAt_card (p n : Nat) : (bitsAt p n).card = n := by
  rw [bitsAt, Nat.card_Ico, Nat.add_sub_cancel_left]

/-- The bits of a mask of `n` ones shifted to position `p`. -/
theorem testBit_mask_shiftLeft (n p i : Nat) : ((2 ^ n - 1) <<< p).testBit i = true ↔ i ∈ bitsAt p n := by
  simp only [Nat.testBit_shiftLeft, Nat.testBit_two_pow_sub_one, Bool.and_eq_true, decide_eq_true_eq, mem_bitsAt]
  omega

/-- The masks of a well-formed layout make up 255: the four fields cover the byte and nothing above it (log 29). -/
theorem bitsAt_union_of_wf {l : Mdmcfg2Layout} (h : l.wf = true) :
    bitsAt l.dcoff 1 ∪ bitsAt l.mod 3 ∪ bitsAt l.manch 1 ∪ bitsAt l.sync 3 = Finset.range 8 := by
  have hmask : ((2 ^ 1 - 1) <<< l.dcoff ||| (2 ^ 3 - 1) <<< l.mod ||| (2 ^ 1 - 1) <<< l.manch
      ||| (2 ^ 3 - 1) <<< l.sync : Nat) = 2 ^ 8 - 1 := eq_of_beq h
  ext i
  have hbit := Bool.eq_iff_iff.mp (congrArg (·.testBit i) hmask)
  simpa only [Nat.testBit_or, Bool.or_eq_true, testBit_mask_shiftLeft, Nat.testBit_two_pow_sub_one,
    decide_eq_true_eq, Finset.mem_union, Finset.mem_range] using hbit

/-- Two sets of bits that lose nothing in their union share no bit. -/
theorem disjoint_of_card_le {s t : Finset Nat} (h : s.card + t.card ≤ (s ∪ t).card) : Disjoint s t :=
  Finset.card_union_eq_card_add_card.mp ((Finset.card_union_le s t).antisymm h)

/-- The four fields lie within the byte, no two of them on one bit. -/
structure Mdmcfg2Layout.FieldsApart (l : Mdmcfg2Layout) : Prop where
  dcoff_fits : bitsAt l.dcoff 1 ⊆ Finset.range 8
  mod_fits : bitsAt l.mod 3 ⊆ Finset.range 8
  manch_fits : bitsAt l.manch 1 ⊆ Finset.range 8
  sync_fits : bitsAt l.sync 3 ⊆ Finset.range 8
  dcoff_mod : Disjoint (bitsAt l.dcoff 1) (bitsAt l.mod 3)
  dcoff_manch : Disjoint (bitsAt l.dcoff 1) (bitsAt l.manch 1)
  dcoff_sync : Disjoint (bitsAt l.dcoff 1) (bitsAt l.sync 3)
  mod_manch : Disjoint (bitsAt l.mod 3) (bitsAt l.manch 1)
  mod_sync : Disjoint (bitsAt l.mod 3) (bitsAt l.sync 3)
  manch_sync : Disjoint (bitsAt l.manch 1) (bitsAt l.sync 3)

/-- 1 + 3 + 1 + 3 bits cover eight positions only if none is covered twice. -/
theorem fieldsApart_of_wf {l : Mdmcfg2Layout} (h : l.wf = true) : l.FieldsApart := by
  have hunion := bitsAt_union_of_wf h
  have hcard := congrArg Finset.card hunion
  have hdm := Finset.card_union_le (bitsAt l.dcoff 1) (bitsAt l.mod 3)
  have hdmh := Finset.card_union_le (bitsAt l.dcoff 1 ∪ bitsAt l.mod 3) (bitsAt l.manch 1)
  have hdmhs := Finset.card_union_le (bitsAt l.dcoff 1 ∪ bitsAt l.mod 3 ∪ bitsAt l.manch 1) (bitsAt l.sync 3)
  simp only [bitsAt_card, Finset.card_range] at hcard hdm hdmh hdmhs
  have hmod : Disjoint (bitsAt l.dcoff 1) (bitsAt l.mod 3) :=
    disjoint_of_card_le (by simp only [bitsAt_card]; omega)
  have hmanch : Disjoint (bitsAt l.dcoff 1 ∪ bitsAt l.mod 3) (bitsAt l.manch 1) :=
    disjoint_of_card_le (by simp only [bitsAt_card]; omega)
  have hsync : Disjoint (bitsAt l.dcoff 1 ∪ bitsAt l.mod 3 ∪ bitsAt l.manch 1) (bitsAt l.sync 3) :=
    disjoint_of_card_le (by simp only [bitsAt_card]; omega)
  simp only [Finset.disjoint_union_left] at hmanch hsync
  have hfits := hunion.le
  simp only [Finset.union_subset_iff] at hfits
  obtain ⟨⟨⟨hd, hm⟩, hh⟩, hs⟩ := hfits
  obtain ⟨hdh, hmh⟩ := hmanch
  obtain ⟨⟨hds, hms⟩, hhs⟩ := hsync
  exact ⟨hd, hm, hh, hs, hmod, hdh, hds, hmh, hms, hhs⟩

end Sys2Proof

namespace Sys2Proof.Machine

/-! ### Reading back one placed field -/

/-- A field placed in a byte is read back at its place. -/
theorem extractLsb'_placed_same {n p : Nat} (x : BitVec n) (h : bitsAt p n ⊆ Finset.range 8) :
    (x.setWidth 8 <<< p).extractLsb' p n = x := by
  apply BitVec.eq_of_getLsbD_eq
  intro i hi
  have hlt : p + i < 8 := Finset.mem_range.mp (h (mem_bitsAt.mpr ⟨by omega, by omega⟩))
  simp [hi, hlt]

/-- A field placed apart from the bits read leaves them 0. -/
theorem extractLsb'_placed_apart {n p m q : Nat} (x : BitVec n) (h : Disjoint (bitsAt p m) (bitsAt q n)) :
    (x.setWidth 8 <<< q).extractLsb' p m = 0#m := by
  apply BitVec.eq_of_getLsbD_eq
  intro i hi
  have hout : ¬ (q ≤ p + i ∧ p + i < q + n) := fun hin =>
    Finset.disjoint_left.mp h (mem_bitsAt.mpr ⟨by omega, by omega⟩) (mem_bitsAt.mpr hin)
  by_cases hbelow : p + i < q
  · simp [hbelow]
  · simp [BitVec.getLsbD_of_ge x (p + i - q) (by omega)]

section Fields

variable {l : Mdmcfg2Layout} (h : l.FieldsApart) (dcoff manch : BitVec 1) (mod sync : BitVec 3)
include h

theorem mdmcfg2Byte_dcoff : (mdmcfg2Byte l dcoff mod manch sync).extractLsb' l.dcoff 1 = dcoff := by
  simp only [mdmcfg2Byte, BitVec.extractLsb'_or, extractLsb'_placed_same dcoff h.dcoff_fits,
    extractLsb'_placed_apart mod h.dcoff_mod, extractLsb'_placed_apart manch h.dcoff_manch,
    extractLsb'_placed_apart sync h.dcoff_sync, BitVec.or_zero]

theorem mdmcfg2Byte_mod : (mdmcfg2Byte l dcoff mod manch sync).extractLsb' l.mod 3 = mod := by
  simp only [mdmcfg2Byte, BitVec.extractLsb'_or, extractLsb'_placed_same mod h.mod_fits,
    extractLsb'_placed_apart dcoff h.dcoff_mod.symm, extractLsb'_placed_apart manch h.mod_manch,
    extractLsb'_placed_apart sync h.mod_sync, BitVec.or_zero, BitVec.zero_or]

theorem mdmcfg2Byte_manch : (mdmcfg2Byte l dcoff mod manch sync).extractLsb' l.manch 1 = manch := by
  simp only [mdmcfg2Byte, BitVec.extractLsb'_or, extractLsb'_placed_same manch h.manch_fits,
    extractLsb'_placed_apart dcoff h.dcoff_manch.symm, extractLsb'_placed_apart mod h.mod_manch.symm,
    extractLsb'_placed_apart sync h.manch_sync, BitVec.or_zero, BitVec.zero_or]

theorem mdmcfg2Byte_sync : (mdmcfg2Byte l dcoff mod manch sync).extractLsb' l.sync 3 = sync := by
  simp only [mdmcfg2Byte, BitVec.extractLsb'_or, extractLsb'_placed_same sync h.sync_fits,
    extractLsb'_placed_apart dcoff h.dcoff_sync.symm, extractLsb'_placed_apart mod h.mod_sync.symm,
    extractLsb'_placed_apart manch h.manch_sync.symm, BitVec.zero_or]

end Fields

/-! ### The fields of `CFG_MODEM` as numbers (R27) -/

theorem modField_toNat (modem : Byte) : (modField modem).toNat = modem.toNat % 8 := by
  rw [modField, slice_toNat]
  omega

theorem manchField_toNat (modem : Byte) : (manchField modem).toNat = modem.toNat / 8 % 2 := slice_toNat modem 3 1

theorem dcoffField_toNat (modem : Byte) : (dcoffField modem).toNat = modem.toNat / 16 % 2 := slice_toNat modem 4 1

theorem syncField_toNat (modem : Byte) : (syncField modem).toNat = modem.toNat / 32 := by
  rw [syncField, slice_toNat]
  omega

/-- The Manchester bit that goes out, as a number (R204). -/
theorem manchOut_toNat (modem : Byte) : (manchOut (modField modem) (manchField modem)).toNat =
    if modem.toNat % 8 = 4 then 0 else modem.toNat / 8 % 2 := by
  have h4fsk : modField modem = mod4fsk ↔ modem.toNat % 8 = 4 := by
    rw [← BitVec.toNat_inj, modField_toNat]
    rfl
  rw [manchOut, apply_ite BitVec.toNat, manchField_toNat]
  simp only [h4fsk]
  rfl

/-- Settles O32: each field is read back from the byte, where no other field is placed. -/
theorem modemByteHoldsTheFourFields : Obligations.ModemByteHoldsTheFourFields := by
  intro l modem hwf
  have h := fieldsApart_of_wf hwf
  have hread : ∀ p n, (modemByte l modem).toNat / 2 ^ p % 2 ^ n = ((modemByte l modem).extractLsb' p n).toNat :=
    fun p n => (slice_toNat _ p n).symm
  refine ⟨(hread _ 1).trans ?_, (hread _ 3).trans ?_, (hread _ 1).trans ?_, (hread _ 3).trans ?_⟩
  · rw [modemByte, mdmcfg2Byte_dcoff h, dcoffField_toNat]
  · rw [modemByte, mdmcfg2Byte_mod h, modField_toNat]
  · rw [modemByte, mdmcfg2Byte_manch h, manchOut_toNat]
  · rw [modemByte, mdmcfg2Byte_sync h, syncField_toNat]

end Sys2Proof.Machine
end

section
/-! SUPPORT. The status interpreter on a byte that drains: the drain, then on a receive overflow the flush
(45_status_interpreter.md R226, R227, R229, R231), and the result of each on successful answers. -/

namespace Sys2Proof.Machine

/-! ### The reconciled count -/

/-- Settles O44: the live count is the low nibble of the status byte. -/
theorem drainCountReconcilesBothSources : Obligations.DrainCountReconcilesBothSources := by
  intro c r status hdefault
  have hsaturated : statusCount status = 15#4 ↔ status.toNat % 16 = 15 := by
    rw [← BitVec.toNat_inj, statusCount_toNat]
    rfl
  simp only [drainCount, reconcileOf, hdefault, hsaturated, statusCount_toNat]

/-! ### The drain and the flush as one procedure -/

/-- The exchanges of the interpreter: the drain, and behind it the flush on an overflow (R226). -/
def drainThenFlush (overflow : Bool) (s : State) : Run Unit :=
  (drain s).bind fun _ u => if overflow then flush u else .go () u

theorem drainThenFlush_true (s : State) : drainThenFlush true s = (drain s).bind fun _ u => flush u := rfl

theorem drainThenFlush_false {s u : State} (h : drain s = .go () u) : drainThenFlush false s = .go () u := by
  rw [drainThenFlush, h]
  rfl

theorem interp_of_overflow {status : Byte} {s : State} (h : chipState s.cfg status = .rxFifoOverflow)
    (trig : Trigger) :
    interp status trig s = (drainThenFlush true s).bind fun _ u => .go .drainFlush u := by
  rw [drainThenFlush_true, Run.bind_assoc]
  simp only [interp, h]

theorem interp_of_rx_read {status : Byte} {s : State} (h : chipState s.cfg status = .rx)
    (hcount : statusCount status ≠ 0) :
    interp status .read s = (drainThenFlush false s).bind fun _ u => .go .drain u := by
  rw [drainThenFlush, Run.bind_assoc]
  simp only [interp, h]
  exact if_pos ⟨hcount, trivial⟩

/-- The two rows of the policy that drain (R227). -/
theorem drains_cases {c : Config} {status : Byte} {trig : Trigger} (h : drains c status trig = true) :
    chipState c status = .rxFifoOverflow ∨ (chipState c status = .rx ∧ statusCount status ≠ 0 ∧ trig = .read) := by
  unfold drains at h
  split at h
  · exact .inl ‹_›
  · exact .inr ⟨‹_›, by simpa using h⟩
  · cases h

/-- On a byte that drains, the interpreter is the drain, with the flush exactly on an overflow. -/
theorem interp_of_drains {status : Byte} {trig : Trigger} {s : State} (h : drains s.cfg status trig = true) :
    ∃ act, interp status trig s =
      (drainThenFlush (decide (chipState s.cfg status = .rxFifoOverflow)) s).bind fun _ u => .go act u := by
  rcases drains_cases h with hover | ⟨hrx, hcount, rfl⟩
  · simp only [hover, decide_true]
    exact ⟨_, interp_of_overflow hover trig⟩
  · simp only [hrx, reduceCtorEq, decide_false]
    exact ⟨_, interp_of_rx_read hrx hcount⟩

/-! ### On successful answers -/

section Answered

variable {s : State} {a ac af : Answer} {rest : List Answer} {r : Byte}

theorem exchange_decided {k : BusKind} {header : Byte} {sent : List Byte} {n : Nat} (h : s.env.answers = a :: rest)
    (hn : a.data.length = n) : exchange k header sent n s = (a, s.exchanged k header sent a rest) := by
  rw [exchange, nextAnswer_decided h hn, afterAnswer_decided h]
  rfl

/-- The count read that opens a drain. -/
theorem rawRead1_rxbytes (h : s.env.answers = ac :: rest) (hdata : ac.data = [r]) :
    rawRead1 s.cfg.reg.rxbytes s = (ac, s.exchanged .read1 (hdr 1 0 s.cfg.reg.rxbytes) [] ac rest) :=
  exchange_decided h (by rw [hdata]; rfl)

/-- A reconciled count of 0: the drain is its count read (R229). -/
theorem drain_nothing (h : s.env.answers = ac :: rest) (hok : ac.ok = true) (hdata : ac.data = [r])
    (hn : drainCount s.cfg r ac.status = 0) :
    drain s = .go () (s.exchanged .read1 (hdr 1 0 s.cfg.reg.rxbytes) [] ac rest) := by
  simp [drain, rawRead1_rxbytes h hdata, hok, answer_byte_of_data hdata, hn]

/-- A reconciled count above 0: one burst of that many bytes follows, and they are delivered (R229). -/
theorem drain_burst (h : s.env.answers = ac :: af :: rest) (hok : ac.ok = true) (hdata : ac.data = [r])
    (hpos : 0 < drainCount s.cfg r ac.status) (hfok : af.ok = true)
    (hlen : af.data.length = drainCount s.cfg r ac.status) :
    drain s = .go () (((s.exchanged .read1 (hdr 1 0 s.cfg.reg.rxbytes) [] ac (af :: rest)).exchanged .readN
      (hdr 1 1 s.cfg.reg.rxfifo) [] af rest).emit (.data .drain af.data)) := by
  have hburst : rawReadN s.cfg.reg.rxfifo (drainCount s.cfg r ac.status)
      (s.exchanged .read1 (hdr 1 0 s.cfg.reg.rxbytes) [] ac (af :: rest)) = (af, _) := exchange_decided rfl hlen
  simp only [drain, rawRead1_rxbytes h hdata, hok, answer_byte_of_data hdata, hpos, hburst, hfok, if_true]

theorem flush_answered (h : s.env.answers = a :: rest) (hok : a.ok = true) (hdata : a.data = []) :
    flush s = .go () (s.exchanged .strobe s.cfg.stb.sfrx [] a rest) := by
  have hstrobe : rawStrobe s.cfg.stb.sfrx s = (a, s.exchanged .strobe s.cfg.stb.sfrx [] a rest) :=
    exchange_decided h (by rw [hdata]; rfl)
  simp [flush, hstrobe, hok]

end Answered

end Sys2Proof.Machine
end

section
/-! SUPPORT. INTERP where the interpreter goes on (45_status_interpreter.md R235). -/

namespace Sys2Proof.Machine

variable {s : State} {status : Byte}

/-- The low seven bits of a status byte, as INTERP answers them (R235). -/
theorem and_0x7F_toNat (status : Byte) : (status &&& 0x7F#8).toNat = status.toNat % 128 :=
  (BitVec.toNat_and _ _).trans (Nat.and_two_pow_sub_one_eq_mod status.toNat 7)

/-- INTERP completes with the action code above the low seven bits of the status byte. -/
theorem runCmd_interp_go {trig : Trigger} {act : Act} {u : State} (hctl : s.ctl = .idleReady ∨ s.ctl = .receiving)
    (h : interp status trig s = .go act u) :
    runCmd .radio (interpBody status trig) s =
      .next (u.complete true (BitVec.ofNat 32 (act.code.toNat * 256 + status.toNat % 128))) := by
  rw [runCmd_admitted (admits_radio hctl), interpBody, h, Run.bind_go, finish_go, shiftLeft_or_byte, and_0x7F_toNat,
    Nat.mul_comm]

/-- Each INTERP instruction is the interpreter under one of the triggers. -/
theorem exec_interp {i : Instr} (hi : i = .interpW status ∨ i = .interpR status) (s : State) :
    ∃ trig, exec i s = runCmd .radio (interpBody status trig) s := by
  rcases hi with rfl | rfl
  · exact ⟨.write, rfl⟩
  · exact ⟨.read, rfl⟩

/-! ### Without a drain -/

theorem calmAct_code (c : Config) (status : Byte) :
    (calmAct c status).code.toNat * 256 = if statusLog c status = [] then 0 else 256 := by
  unfold calmAct
  split <;> rfl

theorem runCmd_interp_calm {trig : Trigger} (hctl : s.ctl = .idleReady ∨ s.ctl = .receiving)
    (h : drains s.cfg status trig = false) :
    runCmd .radio (interpBody status trig) s = .next { s with
      ok := true
      res := BitVec.ofNat 32 ((if statusLog s.cfg status = [] then 0 else 256) + status.toNat % 128)
      trace := s.trace ++ statusLog s.cfg status } := by
  rw [runCmd_interp_go hctl (interp_calm rfl h), calmAct_code]
  rfl

/-- Settles O41: both triggers alike. -/
theorem interpWithoutADrain : Obligations.InterpWithoutADrain :=
  fun _ _ hctl => ⟨runCmd_interp_calm hctl, runCmd_interp_calm hctl⟩

/-! ### With a drain -/

theorem runCmd_interp_rx_read {u : State} (hctl : s.ctl = .idleReady ∨ s.ctl = .receiving)
    (hrx : chipState s.cfg status = .rx) (hcount : status.toNat % 16 ≠ 0) (h : drain s = .go () u) :
    runCmd .radio (interpBody status .read) s =
      .next (u.complete true (BitVec.ofNat 32 (2 * 256 + status.toNat % 128))) := by
  have hne : statusCount status ≠ 0 := fun h0 => hcount (by rw [← statusCount_toNat, h0]; rfl)
  exact runCmd_interp_go (act := .drain) hctl (by rw [interp_of_rx_read hrx hne, drainThenFlush_false h, Run.bind_go])

theorem runCmd_interp_overflow {trig : Trigger} {u v : State} (hctl : s.ctl = .idleReady ∨ s.ctl = .receiving)
    (hover : chipState s.cfg status = .rxFifoOverflow) (h : drain s = .go () u) (hflush : flush u = .go () v) :
    runCmd .radio (interpBody status trig) s =
      .next (v.complete true (BitVec.ofNat 32 (3 * 256 + status.toNat % 128))) :=
  runCmd_interp_go (act := .drainFlush) hctl
    (by rw [interp_of_overflow hover, drainThenFlush_true, h, Run.bind_go, hflush, Run.bind_go])

/-- Settles O42: the drain goes on, by its count read alone or with the burst behind it. -/
theorem interpReadDrainsInReceiveMode : Obligations.InterpReadDrainsInReceiveMode := by
  intro s status r ac rest n hctl hrx hcount hans hok hdata hn
  subst hn
  refine ⟨fun hzero => runCmd_interp_rx_read hctl hrx hcount (drain_nothing hans hok hdata hzero), ?_⟩
  rintro af rest' hpos rfl hfok hlen
  have hexec : exec (.interpR status) s = _ :=
    runCmd_interp_rx_read hctl hrx hcount (drain_burst hans hok hdata hpos hfok hlen)
  rw [hexec]
  simp [State.exchanged, State.emit, State.complete, used_used]

/-- Settles O43: the drain goes on, by its count read alone or with the burst behind it, and the flush after it. -/
theorem interpOverflowDrainsAndFlushes : Obligations.InterpOverflowDrainsAndFlushes := by
  intro s i status r ac rest n hi hctl hover hans hok hdata hn
  obtain ⟨trig, hexec⟩ := exec_interp hi s
  subst hn
  rw [hexec]
  constructor
  · rintro ax rest' hzero rfl hxok hxdata
    rw [runCmd_interp_overflow hctl hover (drain_nothing hans hok hdata hzero) (flush_answered rfl hxok hxdata)]
    simp [State.exchanged, State.complete, used_used]
  · rintro af ax rest' hpos rfl hfok hxok hlen hxdata
    rw [runCmd_interp_overflow hctl hover (drain_burst hans hok hdata hpos hfok hlen)
      (flush_answered rfl hxok hxdata)]
    simp [State.exchanged, State.emit, State.complete, used_used]

end Sys2Proof.Machine
end

section
/-! SUPPORT. The interpreter as the four-state machine (45_status_interpreter.md R234): run from `SI_COUNT`, the machine
makes the drain and, on an overflow, the flush. -/

namespace Sys2Proof.Machine

variable {α β : Type}

/-- The success flag and the state of a procedure, as the machine reports them. -/
def Run.reported (r : Run α) : Bool × State :=
  match r with
  | .go _ s => (true, s)
  | .stop _ s => (false, s)

@[simp] theorem Run.reported_go (a : α) (s : State) : (Run.go a s).reported = (true, s) := rfl
@[simp] theorem Run.reported_stop (w : Stop) (s : State) : (Run.stop w s : Run α).reported = (false, s) := rfl

theorem Run.reported_state (r : Run α) : r.reported.2 = r.state := by cases r <;> rfl

theorem Run.reported_ok_iff (r : Run α) : r.reported.1 = true ↔ ∃ a u, r = .go a u := by cases r <;> simp

/-- Another value for the same end changes nothing of what is reported. -/
theorem Run.reported_bind_go (r : Run α) (b : β) : (r.bind fun _ u => .go b u).reported = r.reported := by
  cases r <;> rfl

section Transitions

variable {overflow ok : Bool} {st st' : SiState} {s u : State}

theorem siRun_of_idle (h : siStep overflow st s = (.idle, ok, u)) (k : Nat) :
    siRun overflow (k + 1) st s = (.idle, ok, u) := by
  rw [siRun, h]

theorem siRun_of_ne_idle (h : siStep overflow st s = (st', ok, u)) (hne : st' ≠ .idle) (k : Nat) :
    siRun overflow (k + 1) st s = siRun overflow k st' u := by
  rw [siRun, h]
  cases st' with
  | idle => exact absurd rfl hne
  | _ => rfl

theorem siRun_flush (overflow : Bool) (s : State) (k : Nat) :
    siRun overflow (k + 1) .flush s = (.idle, (flush s).reported) := by
  rw [siRun_of_idle rfl]
  unfold flush
  dsimp only
  split
  next hok => rw [Run.reported_go, hok]
  next hfail => rw [Run.reported_stop, eq_false_of_ne_true hfail]

/-- Where the drain is done, the machine flushes on an overflow and is idle otherwise. -/
theorem siRun_drained (h : siStep overflow st s = (if overflow then .flush else .idle, true, u)) (k : Nat) :
    siRun overflow (k + 2) st s = (.idle, (if overflow then flush u else .go () u).reported) := by
  cases overflow with
  | true => exact (siRun_of_ne_idle h nofun _).trans (siRun_flush _ _ _)
  | false => exact siRun_of_idle h _

/-- The machine follows the branches of the drain: a failed count read, a count of 0, a burst that fails or not. -/
theorem siRun_count (overflow : Bool) (s : State) :
    siRun overflow 3 .count s = (.idle, (drainThenFlush overflow s).reported) := by
  rcases hread : rawRead1 s.cfg.reg.rxbytes s with ⟨c, u⟩
  have hcfg : u.cfg = s.cfg := congrArg (fun x : Answer × State => x.2.cfg) hread.symm
  simp only [drainThenFlush, drain, hread]
  by_cases hcount : c.ok = true
  · by_cases hpos : 0 < drainCount s.cfg c.byte c.status
    · have hfifo : siStep overflow .count s = (.fifo (drainCount s.cfg c.byte c.status), true, u) := by
        simp only [siStep, hread, hcount, hpos, if_true]
      rw [siRun_of_ne_idle hfifo nofun, if_pos hcount, if_pos hpos]
      split
      next hburst => exact siRun_drained (by simp only [siStep, hcfg, hburst, if_true]) _
      next hburst => exact siRun_of_idle (by simp only [siStep, hcfg, hburst]; rfl) _
    · rw [if_pos hcount, if_neg hpos]
      exact siRun_drained (by simp only [siStep, hread, hcount, hpos, if_true, if_false]) _
  · rw [if_neg hcount]
    exact siRun_of_idle (by simp only [siStep, hread, hcount]; rfl) _

end Transitions

/-- Settles O45: the interpreter and the machine report the same end of the drain and flush. -/
theorem interpreterIsTheFourStateMachine : Obligations.InterpreterIsTheFourStateMachine := by
  intro s status trig hdrains
  obtain ⟨act, hinterp⟩ := interp_of_drains hdrains
  have hrun : siRun (decide (chipState s.cfg status = .rxFifoOverflow)) 3 .count s =
      (.idle, (interp status trig s).reported) := by
    rw [siRun_count, hinterp, Run.reported_bind_go]
  dsimp only
  rw [hrun]
  exact ⟨rfl, (Run.reported_state _).symm, Run.reported_ok_iff _⟩

end Sys2Proof.Machine
end

section
/-! SUPPORT. The number of exchanges of one interpretation (45_status_interpreter.md R232). -/

namespace Sys2Proof.Machine

variable {j k : Nat} {s u v : State}

/-- Between the states the trace grows by events of which at most `k` are exchanges. -/
def AtMostExchanges (k : Nat) (s u : State) : Prop :=
  ∃ new, u.trace = s.trace ++ new ∧ (new.filter Event.isBus).length ≤ k

theorem AtMostExchanges.refl (k : Nat) (s : State) : AtMostExchanges k s s := ⟨[], by simp, by simp⟩

theorem AtMostExchanges.mono (h : AtMostExchanges j s u) (hjk : j ≤ k) : AtMostExchanges k s u := by
  obtain ⟨new, htrace, hlen⟩ := h
  exact ⟨new, htrace, hlen.trans hjk⟩

theorem AtMostExchanges.trans (h : AtMostExchanges k s u) (h' : AtMostExchanges j u v) :
    AtMostExchanges (k + j) s v := by
  obtain ⟨n1, e1, l1⟩ := h
  obtain ⟨n2, e2, l2⟩ := h'
  refine ⟨n1 ++ n2, by rw [e2, e1, List.append_assoc], ?_⟩
  rw [List.filter_append, List.length_append]
  omega

/-- Sequencing adds the bounds; a stop keeps the first. -/
theorem AtMostExchanges.bind {α β : Type} {r : Run α} {f : α → State → Run β} (h : AtMostExchanges k s r.state)
    (hf : ∀ a u, AtMostExchanges j u (f a u).state) : AtMostExchanges (k + j) s (r.bind f).state := by
  cases r with
  | go a u => exact h.trans (hf a u)
  | stop w u => exact h.mono (Nat.le_add_right k j)

theorem AtMostExchanges.emit {e : Event} (he : e.isBus = false) (s : State) : AtMostExchanges 0 s (s.emit e) :=
  ⟨[e], rfl, by simp [he]⟩

theorem exchange_atMostExchanges (kind : BusKind) (header : Byte) (sent : List Byte) (n : Nat) (s : State) :
    AtMostExchanges 1 s (exchange kind header sent n s).2 :=
  ⟨[_], exchange_trace kind header sent n s, List.length_filter_le _ _⟩

theorem drain_atMostExchanges (s : State) : AtMostExchanges 2 s (drain s).state := by
  have hcount : AtMostExchanges 1 s (rawRead1 s.cfg.reg.rxbytes s).2 := exchange_atMostExchanges _ _ _ _ _
  unfold drain
  dsimp only
  split
  · split
    · have hburst n : AtMostExchanges 2 s (rawReadN s.cfg.reg.rxfifo n (rawRead1 s.cfg.reg.rxbytes s).2).2 :=
        hcount.trans (exchange_atMostExchanges _ _ _ _ _)
      split
      · exact (hburst _).trans (.emit rfl _)
      · exact hburst _
    · exact hcount.mono (by omega)
  · exact hcount.mono (by omega)

theorem flush_atMostExchanges (s : State) : AtMostExchanges 1 s (flush s).state := by
  unfold flush
  dsimp only
  split <;> exact exchange_atMostExchanges _ _ _ _ _

theorem drainThenFlush_atMostExchanges (overflow : Bool) (s : State) :
    AtMostExchanges 3 s (drainThenFlush overflow s).state := by
  refine (drain_atMostExchanges s).bind (j := 1) fun _ u => ?_
  cases overflow with
  | true => exact flush_atMostExchanges u
  | false => exact .refl 1 u

/-- What the interpreter logs is no exchange. -/
theorem statusLog_filter_isBus (c : Config) (status : Byte) : (statusLog c status).filter Event.isBus = [] := by
  unfold statusLog
  split <;> rfl

/-- Settles O46: a byte that does not drain is logged at most; one that does makes the drain's and the flush's
exchanges. -/
theorem interpreterIssuesAtMostThreeExchanges : Obligations.InterpreterIssuesAtMostThreeExchanges := by
  intro s status trig
  cases hdrains : drains s.cfg status trig with
  | false =>
    have hlog := statusLog_filter_isBus s.cfg status
    exact ⟨statusLog s.cfg status, by rw [interp_calm rfl hdrains]; rfl, by simp [hlog], fun _ => hlog⟩
  | true =>
    obtain ⟨act, hinterp⟩ := interp_of_drains hdrains
    have hbound := (drainThenFlush_atMostExchanges (decide (chipState s.cfg status = .rxFifoOverflow)) s).bind
      (f := fun _ u => .go act u) fun _ u => .refl 0 u
    rw [← hinterp] at hbound
    obtain ⟨new, htrace, hlen⟩ := hbound
    exact ⟨new, htrace, hlen, nofun⟩

end Sys2Proof.Machine
end

section
/-! SUPPORT. The controller's moves (46_controller.md R265, 10_state.md R40): what leaves the controller alone, and the
commands that move it, as paths of the transition table. -/

namespace Sys2Proof.Machine

variable {α β : Type} {s t u v : State}

/-! ### Written states -/

theorem ctlWrites_append (a b : List Event) : ctlWrites (a ++ b) = ctlWrites a ++ ctlWrites b :=
  List.filterMap_append

/-- Bus traffic writes no controller state. -/
theorem ctlWrites_of_traffic {es : List Event} (h : ∀ e ∈ es, e.isTraffic = true) : ctlWrites es = [] := by
  refine List.filterMap_eq_nil_iff.mpr fun e he => ?_
  have ht := h e he
  cases e with
  | ctl c => cases ht
  | _ => rfl

theorem ctlPath_append {c d e : CtlState} {xs ys : List CtlState} (h : ctlPath c xs d) (k : ctlPath d ys e) :
    ctlPath c (xs ++ ys) e := by
  induction xs generalizing c with
  | nil => exact (show c = d from h) ▸ k
  | cons x xs ih => exact ⟨h.1, ih h.2⟩

/-- Every state but Faulted has a transition to Faulted (R265, R313). -/
theorem ctlAllowed_faulted {c : CtlState} (h : c ≠ .faulted) : ctlAllowed c .faulted = true := by
  cases c with
  | faulted => exact absurd rfl h
  | _ => rfl

/-! ### What leaves the controller alone -/

/-- The controller is not written: the trace grows by events that are no writes of it. -/
structure Quiet (s u : State) : Prop where
  ctl : u.ctl = s.ctl
  trace : ∃ new, u.trace = s.trace ++ new ∧ ctlWrites new = []

theorem Quiet.of_eq (hctl : u.ctl = s.ctl) (htrace : u.trace = s.trace) : Quiet s u :=
  ⟨hctl, [], by simp [htrace], rfl⟩

theorem Quiet.refl (s : State) : Quiet s s := .of_eq rfl rfl

theorem Quiet.trans (h : Quiet s u) (k : Quiet u v) : Quiet s v := by
  obtain ⟨hctl, n1, e1, w1⟩ := h
  obtain ⟨kctl, n2, e2, w2⟩ := k
  exact ⟨kctl.trans hctl, n1 ++ n2, by rw [e2, e1, List.append_assoc], by rw [ctlWrites_append, w1, w2]; rfl⟩

theorem Quiet.bind {r : Run α} {f : α → State → Run β} (h : Quiet s r.state)
    (hf : ∀ a u, Quiet u (f a u).state) : Quiet s (r.bind f).state :=
  Run.bind_state_rel (R := Quiet) (fun _ _ _ => Quiet.trans) h fun a u _ => hf a u

theorem Quiet.fatalOnFail {r : Run α} (h : Quiet s r.state) : Quiet s r.fatalOnFail.state := by
  rwa [Run.fatalOnFail_state]

theorem Quiet.emit (s : State) {e : Event} (h : ctlWrites [e] = []) : Quiet s (s.emit e) := ⟨rfl, [e], rfl, h⟩

theorem TrafficOnly.quiet (h : TrafficOnly s u) : Quiet s u := by
  obtain ⟨new, htrace, hnew⟩ := h.trace
  exact ⟨h.ctl, new, htrace, ctlWrites_of_traffic hnew⟩

theorem Sends.quiet {k : Nat} {r : Run α} (h : Sends k s r) : Quiet s r.state := by
  cases r with
  | go a u => exact h.meets.traffic.quiet
  | stop w u => exact h.meets.traffic.quiet

/-! ### The commands that leave it alone -/

theorem cfgwBody_quiet (idx : CsrIdx) (v : Word32) (s : State) : Quiet s (cfgwBody idx v s).state := by
  unfold cfgwBody
  split
  · exact .refl s
  · exact .of_eq rfl rfl

theorem wrregBody_quiet (a : Addr) (v : Byte) (s : State) : Quiet s (wrregBody a v s).state := by
  cases hcheck : writeCheck a with
  | some e => rw [wrregBody_rejected hcheck]; exact .refl s
  | none => exact (wrregBody_sends hcheck v s).quiet

theorem wrburstBody_quiet (a : Addr) (n : Byte) (s : State) : Quiet s (wrburstBody a n s).state := by
  cases hcheck : burstCheck a n 8 with
  | some e => rw [wrburstBody_rejected hcheck]; exact .refl s
  | none => exact (wrburstBody_sends hcheck s).quiet

theorem rdburstBody_quiet (a : Addr) (n : Byte) (s : State) : Quiet s (rdburstBody a n s).state := by
  cases hcheck : burstCheck a n 255 with
  | some e => rw [rdburstBody_rejected hcheck]; exact .refl s
  | none => exact (rdburstBody_sends hcheck s).quiet

theorem setfreqBody_quiet (hz : Word32) (s : State) : Quiet s (setfreqBody hz s).state := by
  cases hw : freqOverflow (encFreq (clampHz hz.toNat) s.oscNat) with
  | true => rw [setfreqBody_overflow hw]; exact .refl s
  | false =>
    rw [setfreqBody_fits hw]
    exact (freqWrites_sends _ s).quiet.bind fun _ u => .of_eq rfl rfl

theorem setpwrBody_quiet (dbm : Byte) (s : State) : Quiet s (setpwrBody dbm s).state := by
  cases hfreq : s.dev.freqHz with
  | none => rw [setpwrBody_unset hfreq]; exact .refl s
  | some f =>
    by_cases hl : paTableFits s.cfg f
    · have hstaged : Quiet s (s.staged f dbm) := .of_eq rfl rfl
      exact hstaged.trans (setpwrBody_sends hfreq hl).quiet
    · rw [setpwrBody_badTable hfreq hl]; exact .refl s

theorem setmodBody_quiet (s : State) : Quiet s (setmodBody s).state := by
  cases hm : modReserved (modField s.radio.modem) with
  | true => rw [setmodBody_reserved hm]; exact .refl s
  | false => exact (setmodBody_sends hm).quiet

theorem post_quiet (s : State) : Quiet s s.post := by
  unfold State.post
  split
  · exact .of_eq rfl rfl
  · exact .refl s

theorem interrupt_quiet (s : State) (e : Edge) : Quiet s (s.interrupt e) := by
  unfold State.interrupt
  split
  · exact post_quiet s
  · exact .refl s

theorem updateBody_quiet (s : State) : Quiet s (updateBody s).state := by
  have hwait : Quiet s (s.setEnv s.env.afterWait) := .of_eq rfl rfl
  have htake (u : State) : Quiet u u.takeNotification := .of_eq rfl rfl
  unfold updateBody
  split
  · exact htake s
  · split
    · split
      · exact (hwait.trans (post_quiet _)).trans (htake _)
      · exact hwait
    · exact .refl s

/-! ### INIT's parts between its own writes of the controller -/

theorem ctlWrites_waitEvents (k : Nat) : ctlWrites (waitEvents k) = [] := by
  simp [ctlWrites, waitEvents]

theorem waitLevels_quiet (ls : List Bool) (s : State) : Quiet s (waitLevels ls s).state := by
  induction ls generalizing s with
  | nil =>
    unfold waitLevels
    dsimp only
    cases Config.freeReadyAfter s.env.fresh with
    | none => exact .of_eq rfl rfl
    | some k => exact ⟨rfl, waitEvents k, List.append_assoc _ _ _, ctlWrites_waitEvents k⟩
  | cons l rest ih =>
    have hread : Quiet s ((s.setEnv { s.env with levels := rest }).emit (.line (.dataInRead l))) :=
      ⟨rfl, [.line (.dataInRead l)], rfl, rfl⟩
    unfold waitLevels
    cases l with
    | true => exact hread.trans (ih _)
    | false => exact hread

theorem pulsed_quiet (s : State) : Quiet s s.pulsed :=
  ⟨by simp [State.pulsed], _, pulsed_trace s, rfl⟩

theorem resetSeq_quiet (s : State) : Quiet s (resetSeq s).state :=
  (pulsed_quiet s).trans <| (waitLevels_quiet _ _).bind fun _ u =>
    (busStrobe_sends _ u).quiet.fatalOnFail.bind fun _ v => waitLevels_quiet _ v

theorem writeAll_quiet (ws : List (Addr × Byte)) (s : State) : Quiet s (writeAll ws s).state := by
  induction ws generalizing s with
  | nil => exact .refl s
  | cons w ws ih => exact (busWrite1_sends _ _ s).quiet.fatalOnFail.bind fun _ u => ih u

/-- A SET command's procedure run as a part of INIT. -/
theorem sub_quiet {body : State → Run Word32} (h : Quiet s (body s).state) : Quiet s (sub body s).state :=
  h.fatalOnFail.bind fun _ u => .refl u

theorem devStep_quiet (s : State) : Quiet s (devStep s).state := by
  unfold devStep
  split
  · exact .refl s
  · exact sub_quiet (setdevBody_sends _ s).quiet

theorem loadConfig_quiet (s : State) : Quiet s (loadConfig s).state :=
  (writeAll_quiet _ s).bind fun _ _ => (writeAll_quiet _ _).bind fun _ _ =>
  (sub_quiet (setfreqBody_quiet _ _)).bind fun _ s3 => (sub_quiet (setbwBody_sends _ s3).quiet).bind fun _ s4 =>
  (devStep_quiet s4).bind fun _ _ => (sub_quiet (setpwrBody_quiet _ _)).bind fun _ s6 =>
  (sub_quiet (setmodBody_quiet s6)).bind fun _ _ => writeAll_quiet _ _

/-! ### Moves -/

/-- The trace grows, and the states written are a path of R265 that has not entered Faulted. -/
structure Moves (s u : State) : Prop where
  path : ∃ new, u.trace = s.trace ++ new ∧ ctlPath s.ctl (ctlWrites new) u.ctl
  alive : s.ctl ≠ .faulted → u.ctl ≠ .faulted

theorem Quiet.moves (h : Quiet s u) : Moves s u := by
  obtain ⟨hctl, new, htrace, hwrites⟩ := h
  exact ⟨⟨new, htrace, by rw [hwrites]; exact hctl.symm⟩, fun hs => hctl ▸ hs⟩

theorem Moves.trans (h : Moves s u) (k : Moves u v) : Moves s v := by
  obtain ⟨⟨n1, e1, p1⟩, a1⟩ := h
  obtain ⟨⟨n2, e2, p2⟩, a2⟩ := k
  refine ⟨⟨n1 ++ n2, by rw [e2, e1, List.append_assoc], ?_⟩, fun hs => a2 (a1 hs)⟩
  rw [ctlWrites_append]
  exact ctlPath_append p1 p2

/-- One listed transition. -/
theorem Moves.setCtl {c d : CtlState} (hs : s.ctl = c) (h : ctlAllowed c d = true) (hd : d ≠ .faulted) :
    Moves s (s.setCtl d) := ⟨⟨[.ctl d], rfl, hs ▸ h, rfl⟩, fun _ => hd⟩

/-- A part that leaves the controller alone, and what follows it from the same controller state. -/
theorem Quiet.bind_moves {r : Run α} {f : α → State → Run β} (h : Quiet s r.state)
    (hf : ∀ a u, u.ctl = s.ctl → Moves u (f a u).state) : Moves s (r.bind f).state := by
  refine Run.bind_state_rel (R := Moves) (fun _ _ _ => Moves.trans) h.moves fun a u hr => hf a u ?_
  rw [hr] at h
  exact h.ctl

/-- BEGINRX moves to Receiving at most once, at its end (R259). -/
theorem rxAttempt_moves (k t : Nat) (h : s.ctl = .idleReady) : Moves s (rxAttempt k t s).state := by
  induction k generalizing t s with
  | zero =>
    refine (busStrobe_sends _ s).quiet.bind_moves fun _ u hu => ?_
    split
    · exact .setCtl (hu.trans h) rfl nofun
    · exact (Quiet.emit u rfl).moves
  | succ k ih =>
    refine (busStrobe_sends _ s).quiet.bind_moves fun _ u hu => ?_
    split
    · exact .setCtl (hu.trans h) rfl nofun
    · exact (Quiet.emit u rfl).moves.trans (ih _ (hu.trans h))

theorem beginrxBody_moves (h : s.ctl = .idleReady) : Moves s (beginrxBody s).state := by
  have harmed : Quiet s
      (((s.emit (.gpio (.armInterrupt s.radio.edge))).emit (.gpio .installHandler)).arm s.radio.edge) :=
    ⟨rfl, [.gpio (.armInterrupt s.radio.edge), .gpio .installHandler], List.append_assoc _ _ _, rfl⟩
  exact harmed.moves.trans (rxAttempt_moves _ _ h)

theorem verify_moves (h : s.ctl = .verifying) : Moves s (verify s).state := by
  refine (busRead1_sends _ s).quiet.fatalOnFail.bind_moves fun p u hu =>
    (busRead1_sends _ u).quiet.fatalOnFail.bind_moves fun v x hx => ?_
  split
  · exact (Quiet.refl x).moves
  · exact .setCtl (hx.trans (hu.trans h)) rfl nofun

/-- INIT from Configuration loading on. -/
theorem loadThenVerify_moves (h : s.ctl = .configLoading) :
    Moves s ((loadConfig s).bind fun _ u => verify (u.setCtl .verifying)).state :=
  (loadConfig_quiet s).bind_moves fun _ _ hu =>
    (Moves.setCtl (d := .verifying) (hu.trans h) rfl nofun).trans (verify_moves rfl)

theorem initBody_moves (h : s.ctl = .uninitialized) : Moves s (initBody s).state := by
  unfold initBody
  split
  · exact (Quiet.refl s).moves
  · have hosc : Quiet s (s.setOsc s.radio.oscHz) := .of_eq rfl rfl
    refine (hosc.moves.trans (.setCtl (d := .resetting) h rfl nofun)).trans ?_
    exact (resetSeq_quiet _).bind_moves fun _ _ hu =>
      (Moves.setCtl (d := .configLoading) hu rfl nofun).trans (loadThenVerify_moves rfl)

/-! ### Instructions and steps -/

/-- The trace grows, and the states written are a path of R265. -/
def FollowsTable (s t : State) : Prop :=
  ∃ new, t.trace = s.trace ++ new ∧ ctlPath s.ctl (ctlWrites new) t.ctl

theorem Moves.complete (h : Moves s u) (ok : Bool) (w : Word32) : FollowsTable s (u.complete ok w) := h.path

/-- Fatal fault entry is a listed transition, from any state but Faulted (R265, R313). -/
theorem Moves.raiseFatal (h : Moves s u) (hs : s.ctl ≠ .faulted) (c : FatalCode) : FollowsTable s (u.raiseFatal c) := by
  obtain ⟨new, htrace, hpath⟩ := h.path
  rw [FollowsTable, raiseFatal_trace, raiseFatal_ctl, htrace, List.append_assoc]
  refine ⟨_, rfl, ?_⟩
  rw [ctlWrites_append]
  exact ctlPath_append hpath ⟨ctlAllowed_faulted (h.alive hs), rfl⟩

/-- A command that is not admitted in Faulted follows the table when its procedure, where admitted, does. -/
theorem runCmd_followsTable {g : CmdGroup} {body : State → Run Word32} (hg : admits g .faulted = false)
    (hbody : admits g s.ctl = true → Moves s (body s).state) (hnext : runCmd g body s = .next t) :
    FollowsTable s t := by
  rcases runCmd_eq_next hnext with ⟨-, rfl⟩ | ⟨hadm, hfinish⟩
  · exact (Quiet.refl s).moves.complete _ _
  · have hmoves := hbody hadm
    have hlive : s.ctl ≠ .faulted := fun hf => by rw [hf, hg] at hadm; cases hadm
    rcases finish_eq_next hfinish with ⟨v, u, hr, rfl⟩ | ⟨e, u, hr, rfl⟩ | ⟨c, u, hr, rfl⟩ <;> rw [hr] at hmoves
    · exact hmoves.complete _ _
    · exact hmoves.complete _ _
    · exact hmoves.raiseFatal hlive c

/-- A command whose procedure leaves the controller alone. -/
theorem runCmd_quiet_followsTable {g : CmdGroup} {body : State → Run Word32} (hg : admits g .faulted = false)
    (hbody : Quiet s (body s).state) (hnext : runCmd g body s = .next t) : FollowsTable s t :=
  runCmd_followsTable hg (fun _ => hbody.moves) hnext

/-- A reserved word faults in every state but Faulted (R93). -/
theorem runReserved_followsTable (hnext : runReserved s = .next t) : FollowsTable s t := by
  by_cases hctl : s.ctl = .faulted
  · rw [runReserved_refused hctl] at hnext
    cases hnext
    exact (Quiet.refl s).moves.complete _ _
  · rw [runReserved_fatal hctl] at hnext
    cases hnext
    exact (Quiet.refl s).moves.raiseFatal hctl _

theorem execHdrReadN_followsTable {a : Addr} {n : Byte} (hnext : execHdrReadN a n s = .next t) :
    FollowsTable s t := by
  unfold execHdrReadN at hnext
  split at hnext <;> cases hnext
  · exact (busRead1_sends a s).quiet.moves.path
  · exact (busReadN_sends a n.toNat s).quiet.moves.path

/-- Every instruction follows the table, in every controller state. -/
theorem exec_followsTable {i : Instr} (h : exec i s = .next t) : FollowsTable s t := by
  cases i with
  | cfgw idx v => exact runCmd_quiet_followsTable rfl (cfgwBody_quiet idx v s) h
  | cfgr idx =>
    cases h
    exact (Quiet.refl s).moves.complete _ _
  | setfreq hz => exact runCmd_quiet_followsTable rfl (setfreqBody_quiet hz s) h
  | setbw hz => exact runCmd_quiet_followsTable rfl (setbwBody_sends hz s).quiet h
  | setdev hz => exact runCmd_quiet_followsTable rfl (setdevBody_sends hz s).quiet h
  | setpwr dbm => exact runCmd_quiet_followsTable rfl (setpwrBody_quiet dbm s) h
  | setmod => exact runCmd_quiet_followsTable rfl (setmodBody_quiet s) h
  | wrreg a v => exact runCmd_quiet_followsTable rfl (wrregBody_quiet a v s) h
  | rdreg a => exact runCmd_quiet_followsTable rfl (rdregBody_sends a s).quiet h
  | wrburst a n => exact runCmd_quiet_followsTable rfl (wrburstBody_quiet a n s) h
  | rdburst a n => exact runCmd_quiet_followsTable rfl (rdburstBody_quiet a n s) h
  | interpW status => exact runCmd_quiet_followsTable rfl (interpBody_sends status .write s).quiet h
  | interpR status => exact runCmd_quiet_followsTable rfl (interpBody_sends status .read s).quiet h
  | init => exact runCmd_followsTable rfl (fun hadm => initBody_moves (by simpa [admits] using hadm)) h
  | beginrx => exact runCmd_followsTable rfl (fun hadm => beginrxBody_moves (by simpa [admits] using hadm)) h
  | update => exact runCmd_quiet_followsTable rfl (updateBody_quiet s) h
  | strobe c => exact runCmd_quiet_followsTable rfl (strobeBody_sends c s).quiet h
  | reserved0 => exact runReserved_followsTable h
  | reservedE => exact runReserved_followsTable h
  | reservedF => exact runReserved_followsTable h
  | hdrWrite1 a v => cases h; exact (busWrite1_sends a v s).quiet.moves.path
  | hdrWriteN a payload => cases h; exact (busWriteN_sends a payload s).quiet.moves.path
  | hdrRead1 a => cases h; exact (busRead1_sends a s).quiet.moves.path
  | hdrReadN a n => exact execHdrReadN_followsTable h

/-- Settles O13: a decoded instruction and an edge follow the table, and an idle step writes nothing. -/
theorem controllerFollowsItsTransitionTable : Obligations.ControllerFollowsItsTransitionTable := by
  intro s t hstep hpower
  have htake : Quiet s s.takeInput := .of_eq rfl rfl
  suffices FollowsTable s t from this
  unfold step at hstep
  split at hstep
  · cases hstep
    exact (Quiet.refl s).moves.path
  · cases hstep
    exact (htake.trans (interrupt_quiet _ _)).moves.path
  · rename_i hinput
    exact absurd hinput hpower
  · split at hstep
    · exact exec_followsTable (s := s.takeInput) hstep
    · cases hstep

end Sys2Proof.Machine
end

section
/-! SUPPORT. BEGINRX, strobe by strobe (46_controller.md R258 to R261). -/

namespace Sys2Proof.Machine

variable {s u v : State} {a : Answer}

/-! ### One strobe -/

theorem execBeginrx_eq (h : s.ctl = .idleReady) : exec .beginrx s = finish (rxAttempt 2 1 s.armedFor) := by
  have hexec : exec .beginrx s = finish (beginrxBody s) := runCmd_admitted (by rw [h]; rfl)
  rw [hexec, beginrxBody]
  simp [State.emit, State.arm, State.armedFor, rxTries]

/-- A strobe that shows receive mode ends the attempts. -/
theorem rxAttempt_shown (h : strobed a s v) (hrx : chipState s.cfg a.status = .rx) (k t : Nat) :
    rxAttempt k t s = .go (BitVec.ofNat 32 t) (v.setCtl .receiving) := by
  unfold rxAttempt
  rw [busStrobe_strobed h, Run.bind_go, strobed_cfg h, if_pos hrx]

/-- After a strobe in vain with attempts left, the delay and the next attempt. -/
theorem rxAttempt_retry (h : strobed a s v) (hrx : chipState s.cfg a.status ≠ .rx) (k t : Nat) :
    rxAttempt (k + 1) t s = rxAttempt k (t + 1) (v.emit (.delay 40)) := by
  rw [rxAttempt, busStrobe_strobed h, Run.bind_go, strobed_cfg h, if_neg hrx]
  rfl

/-- After the last strobe in vain, the log and the failure. -/
theorem rxAttempt_exhausted (h : strobed a s v) (hrx : chipState s.cfg a.status ≠ .rx) (t : Nat) :
    rxAttempt 0 t s = .stop (.fail .rxEntryFail) (v.emit (.log .rxEntryFail)) := by
  rw [rxAttempt, busStrobe_strobed h, Run.bind_go, strobed_cfg h, if_neg hrx]

/-! ### Several strobes in vain -/

theorem strobedInVain_cfg {tried : List Answer} (h : strobedInVain tried s u) : u.cfg = s.cfg := by
  induction tried generalizing s with
  | nil => exact congrArg State.cfg h
  | cons a as ih =>
    obtain ⟨v, hv, -, has⟩ := h
    have hcfg : v.cfg = s.cfg := strobed_cfg hv
    exact (ih has).trans hcfg

theorem rxAttempt_inVain {tried : List Answer} (h : strobedInVain tried s u) (k t : Nat) :
    rxAttempt (k + tried.length) t s = rxAttempt k (t + tried.length) u := by
  induction tried generalizing s t with
  | nil => rw [show u = s from h]; rfl
  | cons a as ih =>
    obtain ⟨v, hv, hrx, has⟩ := h
    calc rxAttempt (k + as.length + 1) t s
        = rxAttempt (k + as.length) (t + 1) (v.emit (.delay 40)) := rxAttempt_retry hv hrx _ _
      _ = rxAttempt k (t + 1 + as.length) u := ih has (t + 1)
      _ = rxAttempt k (t + (as.length + 1)) u := by rw [Nat.add_right_comm, Nat.add_assoc]

/-- BEGINRX after fewer than three strobes in vain stands before its next one. -/
theorem execBeginrx_inVain {tried : List Answer} (hctl : s.ctl = .idleReady) {k : Nat} (hk : k + tried.length = 2)
    (h : strobedInVain tried s.armedFor u) : exec .beginrx s = finish (rxAttempt k (tried.length + 1) u) := by
  rw [execBeginrx_eq hctl, ← hk, rxAttempt_inVain h, Nat.add_comm 1]

theorem execBeginrx_enters {tried : List Answer} (hctl : s.ctl = .idleReady) (hlen : tried.length < 3)
    (h : strobedInVain tried s.armedFor u) (ha : strobed a u v) (hrx : chipState s.cfg a.status = .rx) :
    exec .beginrx s = .next ((v.setCtl .receiving).complete true (BitVec.ofNat 32 (tried.length + 1))) := by
  have hcfg : u.cfg = s.armedFor.cfg := strobedInVain_cfg h
  rw [execBeginrx_inVain hctl (k := 2 - tried.length) (by omega) h, rxAttempt_shown ha (by rwa [hcfg]), finish_go]

theorem execBeginrx_exhausts {b c : Answer} (hctl : s.ctl = .idleReady)
    (h : strobedInVain [a, b] s.armedFor u) (hc : strobed c u v) (hrx : chipState s.cfg c.status ≠ .rx) :
    exec .beginrx s = .next ((v.emit (.log .rxEntryFail)).complete false 0x06) := by
  have hcfg : u.cfg = s.armedFor.cfg := strobedInVain_cfg h
  rw [execBeginrx_inVain hctl (k := 0) rfl h, rxAttempt_exhausted hc (by rwa [hcfg]), finish_fail]
  rfl

/-! ### Smooth strobes -/

/-- The state after a receive-enable strobe with a smooth answer: its events, and the answer used. -/
def State.smoothStrobe (s : State) (a : Answer) (rest : List Answer) : State :=
  { s with trace := s.trace ++ smoothEvents s.cfg .strobe s.cfg.stb.srx [] a, env := s.env.used rest 1 }

theorem strobed_smooth {rest : List Answer} (h : s.env.answers = a :: rest) (hs : Smooth s.cfg .write 0 a) :
    strobed a s (s.smoothStrobe a rest) := by
  obtain ⟨hok, hlen, hcalm⟩ := hs
  refine ⟨rest, calmAct s.cfg a.status, h, hok, List.length_eq_zero_iff.mp hlen, ?_⟩
  rw [interp_calm (c := s.cfg) (s := s.exchanged _ _ _ a rest) rfl hcalm]
  simp [State.exchanged, State.smoothStrobe, smoothEvents]

/-- The state after smooth strobes, each followed by the retry delay. -/
def State.smoothTries (s : State) (tried rest : List Answer) : State :=
  { s with
    trace := s.trace ++ tried.flatMap (fun x => smoothEvents s.cfg .strobe s.cfg.stb.srx [] x ++ [.delay 40])
    env := s.env.used rest tried.length }

theorem smoothTries_cons (s : State) (a : Answer) (as rest : List Answer) :
    s.smoothTries (a :: as) rest = ((s.smoothStrobe a (as ++ rest)).emit (.delay 40)).smoothTries as rest := by
  simp [State.smoothTries, State.smoothStrobe, State.emit, used_used, Nat.add_comm]

theorem strobedInVain_smooth {tried rest : List Answer} (h : s.env.answers = tried ++ rest)
    (hs : ∀ x ∈ tried, Smooth s.cfg .write 0 x ∧ chipState s.cfg x.status ≠ .rx) :
    strobedInVain tried s (s.smoothTries tried rest) := by
  induction tried generalizing s with
  | nil =>
    have henv : s.env.used rest 0 = s.env := by rw [← show s.env.answers = rest from h]; rfl
    simp [strobedInVain, State.smoothTries, henv]
  | cons a as ih =>
    obtain ⟨⟨hsmooth, hrx⟩, hrest⟩ := List.forall_mem_cons.mp hs
    rw [smoothTries_cons]
    exact ⟨_, strobed_smooth h hsmooth, hrx, ih (s := (s.smoothStrobe a (as ++ rest)).emit (.delay 40)) rfl hrest⟩

/-! ### The obligations -/

/-- Settles O51: the strobes in vain lead to the one that shows receive mode; smooth answers are such strobes. -/
theorem beginrxEntersReceive : Obligations.BeginrxEntersReceive := by
  refine ⟨fun s tried a rest hctl hlen hans htried ha hrx => ?_, fun s u v tried a hctl hlen h ha hrx => ?_⟩
  · have hvain := strobedInVain_smooth (s := s.armedFor) hans htried
    have hlast := strobed_smooth (s := s.armedFor.smoothTries tried (a :: rest)) rfl ha
    rw [execBeginrx_enters hctl hlen hvain hlast hrx]
    simp [State.smoothTries, State.smoothStrobe, State.armedFor, State.setCtl, State.complete, used_used]
  · exact execBeginrx_enters hctl hlen h ha hrx

/-- Settles O52: two strobes in vain lead to the last one; smooth answers are such strobes. -/
theorem beginrxExhaustsItsTries : Obligations.BeginrxExhaustsItsTries := by
  refine ⟨fun s a b c rest hctl hans hs => ?_, fun s u v a b c hctl h hc hrx => ?_⟩
  · have hvain := strobedInVain_smooth (s := s.armedFor) (tried := [a, b]) hans fun x hx =>
      hs x (List.mem_append_left [c] hx)
    obtain ⟨hsmooth, hrx⟩ := hs c (by simp)
    have hlast := strobed_smooth (s := s.armedFor.smoothTries [a, b] (c :: rest)) rfl hsmooth
    rw [execBeginrx_exhausts hctl hvain hlast hrx]
    simp [State.smoothTries, State.smoothStrobe, State.armedFor, State.emit, State.complete, used_used]
  · exact execBeginrx_exhausts hctl h hc hrx

/-! ### Whatever the chip answers -/

/-- The attempts end in Receiving, with the number of the attempt, or by one of the two local failures with the
controller where it was. -/
theorem rxAttempt_meets (k t : Nat) (s : State) : (rxAttempt k t s).Meets
    (fun n u => u.ctl = .receiving ∧ ∃ i, t ≤ i ∧ i ≤ t + k ∧ n = BitVec.ofNat 32 i)
    (fun w u => u.ctl = s.ctl ∧ (w = .fail .busFailure ∨ w = .fail .rxEntryFail)) := by
  have hstrobe (s : State) : (busStrobe s.cfg.stb.srx s).Meets (fun _ u => u.ctl = s.ctl)
      (fun w u => u.ctl = s.ctl ∧ (w = .fail .busFailure ∨ w = .fail .rxEntryFail)) :=
    (busStrobe_sends _ s).meets.mono (fun _ _ h => h.traffic.ctl) fun _ _ h => ⟨h.traffic.ctl, .inl h.stop⟩
  induction k generalizing t s with
  | zero =>
    refine (hstrobe s).bind fun r u hu => ?_
    split
    · exact ⟨rfl, t, le_rfl, le_rfl, rfl⟩
    · exact ⟨hu, .inr rfl⟩
  | succ k ih =>
    refine (hstrobe s).bind fun r u hu => ?_
    split
    · exact ⟨rfl, t, le_rfl, Nat.le_add_right _ _, rfl⟩
    · refine (ih (t + 1) _).mono (fun n x hx => ?_) fun w x hx => ⟨hx.1.trans hu, hx.2⟩
      obtain ⟨hctl, i, hlow, hhigh, hn⟩ := hx
      exact ⟨hctl, i, by omega, by omega, hn⟩

theorem devState_eq {d e : DevState} (hosc : d.oscHz = e.oscHz) (hfreq : d.freqHz = e.freqHz) (hsel : d.paSel = e.paSel)
    (hbuf : d.paBuf = e.paBuf) : d = e := by
  cases d
  cases e
  simp_all

/-- What the attempts leave as it is. -/
theorem rxAttempt_keeps (k t : Nat) (s : State) :
    let u := (rxAttempt k t s).state
    u.irqArmed = s.irqArmed ∧ u.irqPolicy = s.irqPolicy ∧ u.fault = s.fault ∧ u.nq = s.nq ∧ u.radio = s.radio ∧
      u.dev = s.dev := by
  have hwrote : Wrote (· = .ctl .receiving) s (rxAttempt k t s).state :=
    (rxAttempt_writes (W := (· = .ctl .receiving)) rfl k t).state
  obtain ⟨harmed, hpolicy⟩ := hwrote.kept (p := .irq) nofun
  obtain ⟨hsel, hbuf⟩ := hwrote.kept (p := .pa) nofun
  refine ⟨harmed, hpolicy, hwrote.untouched.fault, hwrote.kept (p := .nq) nofun, hwrote.kept (p := .radio) nofun, ?_⟩
  exact devState_eq (hwrote.kept (p := .osc) nofun) (hwrote.kept (p := .freq) nofun) hsel hbuf

/-- Settles O53: both ends of the attempts complete the command, on what the attempts keep of the armed state. -/
theorem beginrxNeverFaults : Obligations.BeginrxNeverFaults := by
  intro s hctl
  have hkeeps := rxAttempt_keeps 2 1 s.armedFor
  have hmeets := rxAttempt_meets 2 1 s.armedFor
  rw [execBeginrx_eq hctl]
  rcases hr : rxAttempt 2 1 s.armedFor with ⟨n, u⟩ | ⟨w, u⟩ <;> rw [hr] at hkeeps hmeets <;>
    obtain ⟨harmed, hpolicy, hfault, hnq, hradio, hdev⟩ := hkeeps
  · obtain ⟨hreceiving, i, hlow, hhigh, rfl⟩ := hmeets
    have hi : (BitVec.ofNat 32 i).toNat = i := by rw [BitVec.toNat_ofNat]; omega
    exact ⟨_, rfl, harmed, hpolicy, hfault, hnq, hradio, hdev,
      .inl ⟨rfl, hreceiving, by rwa [complete_res, hi], by rwa [complete_res, hi]⟩⟩
  · obtain ⟨hidle, rfl | rfl⟩ := hmeets
    · exact ⟨_, rfl, harmed, hpolicy, hfault, hnq, hradio, hdev, .inr ⟨rfl, hidle.trans hctl, .inl rfl⟩⟩
    · exact ⟨_, rfl, harmed, hpolicy, hfault, hnq, hradio, hdev, .inr ⟨rfl, hidle.trans hctl, .inr rfl⟩⟩

end Sys2Proof.Machine
end

section
/-! SUPPORT. UPDATE by its branches (46_controller.md R263). -/

namespace Sys2Proof.Machine

variable {s : State}

/-- A notification that waits is taken at once. -/
theorem updateBody_takes (h : s.nq ≠ 0) : updateBody s = .go 1 s.takeNotification := if_pos h

/-- Without an armed interrupt nothing can post, and the wait times out. -/
theorem updateBody_unarmed (hnq : s.nq = 0) (harmed : s.irqArmed = false) :
    updateBody s = .stop (.fail .timeout) s := by simp [updateBody, hnq, harmed]

/-- An entry posted to an empty queue and taken again leaves it empty. -/
theorem post_takeNotification (h : s.nq = 0) : s.post.takeNotification = s := by
  have hpost : s.post = s.setNq (s.nq + 1) := if_pos (by rw [h]; decide)
  rw [hpost]
  rfl

/-- With the interrupt armed the environment's choice decides. -/
theorem updateBody_waits (hnq : s.nq = 0) (harmed : s.irqArmed = true) :
    updateBody s = if s.env.edgeFirst then .go 1 (s.setEnv s.env.afterWait)
      else .stop (.fail .timeout) (s.setEnv s.env.afterWait) := by
  have htaken : (s.setEnv s.env.afterWait).post.takeNotification = s.setEnv s.env.afterWait :=
    post_takeNotification hnq
  simp [updateBody, hnq, harmed, htaken]

theorem execUpdate_eq (h : s.ctl = .idleReady ∨ s.ctl = .receiving) : exec .update s = finish (updateBody s) :=
  runCmd_admitted (admits_radio h)

/-- UPDATE's wait, completed by the environment's choice. -/
theorem execUpdate_waits (hctl : s.ctl = .idleReady ∨ s.ctl = .receiving) (hnq : s.nq = 0)
    (harmed : s.irqArmed = true) :
    exec .update s = .next { s with
      ok := s.env.edgeFirst
      res := if s.env.edgeFirst then 1 else 0x07
      env := { s.env with waits := s.env.waits.tail, fresh := s.env.fresh + 1 } } := by
  rw [execUpdate_eq hctl, updateBody_waits hnq harmed]
  cases s.env.edgeFirst <;> rfl

/-- Settles O54: the four branches; a decided choice is the head of the environment's list. -/
theorem updateTakesOrWaits : Obligations.UpdateTakesOrWaits := by
  intro s hctl
  refine ⟨fun hnq => ?_, fun hnq harmed => ?_, fun edge rest hnq harmed hwaits => ?_, fun hnq harmed => ?_⟩
  · rw [execUpdate_eq hctl, updateBody_takes hnq, finish_go]
    rfl
  · rw [execUpdate_eq hctl, updateBody_unarmed hnq harmed, finish_fail]
    rfl
  · have hedge : s.env.edgeFirst = edge := by simp only [Env.edgeFirst, hwaits]
    rw [execUpdate_waits hctl hnq harmed, hedge, hwaits, List.tail_cons]
  · exact ⟨s.env.edgeFirst, execUpdate_waits hctl hnq harmed⟩

end Sys2Proof.Machine
end

section
/-! SUPPORT. INIT's reset sequence on decided levels (46_controller.md R253). -/

namespace Sys2Proof.Machine

variable {s t u : State}

/-! ### Answers used -/

/-- The state after a part of a command that has used some answers and left DeviceState as given. -/
def State.progressed (s : State) (d : DevState) (es : List Event) (rest : List Answer) (k : Nat) : State :=
  { s with dev := d, trace := s.trace ++ es, env := s.env.used rest k }

theorem progressed_progressed (s : State) (d d' : DevState) (es es' : List Event) (rest rest' : List Answer)
    (j k : Nat) : (s.progressed d es rest j).progressed d' es' rest' k = s.progressed d' (es ++ es') rest' (j + k) := by
  simp only [State.progressed, used_used, List.append_assoc]

theorem progressed_zero {rest : List Answer} (h : s.env.answers = rest) : s.progressed s.dev [] rest 0 = s := by
  have henv : s.env.used rest 0 = s.env := by rw [← h]; rfl
  rw [State.progressed, henv, List.append_nil]

/-- The reset strobe with a smooth answer. -/
theorem busStrobe_smooth {a : Answer} {rest : List Answer} (c : Byte) (h : s.env.answers = a :: rest)
    (hs : Smooth s.cfg .write 0 a) :
    busStrobe c s = .go a (s.progressed s.dev (smoothEvents s.cfg .strobe c [] a) rest 1) :=
  interpreted_smooth h hs

/-! ### Ready-waits -/

/-- The state after a ready-wait of `m` high reads, with the levels that are left. -/
def State.waited (s : State) (m : Nat) (levels : List Bool) : State :=
  { s with trace := s.trace ++ waitEvents m, env := { s.env with levels := levels } }

theorem waitLevels_decided (m : Nat) (levels : List Bool) (s : State) :
    waitLevels (List.replicate m true ++ false :: levels) s = .go () (s.waited m levels) := by
  induction m generalizing s with
  | zero => rfl
  | succ m ih =>
    rw [List.replicate_succ, List.cons_append, waitLevels]
    refine (ih _).trans ?_
    simp [State.waited, State.emit, State.setEnv, waitEvents, List.replicate_succ]

theorem waitReady_decided {m : Nat} {levels : List Bool}
    (h : s.env.levels = List.replicate m true ++ false :: levels) : waitReady s = .go () (s.waited m levels) := by
  rw [waitReady, h, waitLevels_decided]

/-! ### The whole sequence -/

/-- The state after the reset sequence, the strobe between the two waits having emitted `es` (R253). -/
def State.afterReset (s : State) (m n : Nat) (levels : List Bool) (es : List Event) (rest : List Answer) : State :=
  { s with
    trace := s.trace
      ++ [.line (.clockSet true), .line (.dataOutSet false), .line .csAssert, .delay 40, .line .csDeassert]
      ++ waitEvents m ++ es ++ waitEvents n
    env := { s.env.used rest 1 with levels := levels } }

/-- The state in which the reset strobe is sent (R253). -/
def State.beforeStrobe (s : State) (m n : Nat) (levels : List Bool) : State :=
  { s with
    trace := s.trace
      ++ [.line (.clockSet true), .line (.dataOutSet false), .line .csAssert, .delay 40, .line .csDeassert]
      ++ waitEvents m
    env := { s.env with levels := List.replicate n true ++ false :: levels } }

theorem pulsed_waited (s : State) (m n : Nat) (levels : List Bool) :
    s.pulsed.waited m (List.replicate n true ++ false :: levels) = s.beforeStrobe m n levels := by
  simp [State.pulsed, State.waited, State.beforeStrobe, State.emit, resetCsDwellUs]

theorem resetSeq_decided {m n : Nat} {levels : List Bool} {a : Answer} {es : List Event} {rest : List Answer}
    (hlevels : s.env.levels = List.replicate m true ++ false :: (List.replicate n true ++ false :: levels))
    (hstrobe : busStrobe s.cfg.stb.sres (s.beforeStrobe m n levels) =
      .go a ((s.beforeStrobe m n levels).progressed s.dev es rest 1)) :
    resetSeq s = .go () (s.afterReset m n levels es rest) := by
  have hreset : resetSeq s = (waitReady s.pulsed).bind fun _ u =>
      (busStrobe u.cfg.stb.sres u).fatalOnFail.bind fun _ v => waitReady v := rfl
  have hpulsed : s.pulsed.env = s.env := by simp [State.pulsed]
  have hfirst : waitReady s.pulsed = .go () (s.beforeStrobe m n levels) := by
    rw [waitReady_decided (s := s.pulsed) (by rw [hpulsed, hlevels]), pulsed_waited]
  have hcfg : (s.beforeStrobe m n levels).cfg = s.cfg := rfl
  have hsecond := waitReady_decided (s := (s.beforeStrobe m n levels).progressed s.dev es rest 1) (m := n)
    (levels := levels) rfl
  rw [hreset, hfirst, Run.bind_go, hcfg, hstrobe, Run.fatalOnFail_go, Run.bind_go, hsecond]
  rfl

/-- INIT's first state: the oscillator recorded, Resetting (R250, R252). -/
def State.started (s : State) : State := (s.setOsc s.radio.oscHz).setCtl .resetting

theorem resetSeq_smooth {m n : Nat} {levels : List Bool} {a : Answer} {rest : List Answer}
    (hlevels : s.env.levels = List.replicate m true ++ false :: (List.replicate n true ++ false :: levels))
    (hans : s.env.answers = a :: rest) (hs : Smooth s.cfg .write 0 a) :
    resetSeq s.started =
      .go () (s.started.afterReset m n levels (smoothEvents s.cfg .strobe s.cfg.stb.sres [] a) rest) :=
  resetSeq_decided hlevels (busStrobe_smooth (s := s.started.beforeStrobe m n levels) _ hans hs)

/-- INIT from Configuration loading on (R254 to R257). -/
theorem initBody_after_reset (hosc : s.radio.oscHz ≠ 0) (h : resetSeq s.started = .go () u) :
    initBody s = (loadConfig (u.setCtl .configLoading)).bind fun _ v => verify (v.setCtl .verifying) := by
  rw [initBody, if_neg hosc, ← State.started, h, Run.bind_go]

/-- A command's end adds to the trace of its procedure. -/
theorem finish_trace {r : Run Word32} (h : finish r = .next t) : ∃ es, t.trace = r.state.trace ++ es := by
  rcases finish_eq_next h with ⟨v, u, rfl, rfl⟩ | ⟨e, u, rfl, rfl⟩ | ⟨c, u, rfl, rfl⟩
  · exact ⟨[], (List.append_nil _).symm⟩
  · exact ⟨[], (List.append_nil _).symm⟩
  · exact ⟨[.ctl .faulted], rfl⟩

/-- Settles O49: after the reset sequence the trace only grows. -/
theorem initRunsTheResetSequence : Obligations.InitRunsTheResetSequence := by
  intro s t m n levels a rest hctl hosc hlevels hans hs hexec
  rw [execInit_eq hctl, initBody_after_reset hosc (resetSeq_smooth hlevels hans hs)] at hexec
  obtain ⟨es, htrace⟩ := finish_trace hexec
  obtain ⟨new, hnew, -⟩ := (loadThenVerify_moves (s := (s.started.afterReset m n levels _ rest).setCtl .configLoading)
    rfl).path
  refine ⟨new ++ es, ?_⟩
  rw [htrace, hnew]
  simp [State.afterReset, State.started, waitEvents]

end Sys2Proof.Machine
end

section
/-! SUPPORT. Configuration loading on smooth answers, event by event (46_controller.md R254, R255). -/

namespace Sys2Proof.Machine

variable {α β : Type} {s : State} {d d' : DevState} {as bs : List Answer} {es es' : List Event}

/-! ### Procedures whose events are known -/

/-- With these answers next, the procedure goes on, having emitted these events and left this DeviceState, and nothing
else is changed. -/
def Yields (as : List Answer) (d : DevState) (es : List Event) (s : State) (r : Run α) : Prop :=
  ∀ rest, s.env.answers = as ++ rest → ∃ a, r = .go a (s.progressed d es rest as.length)

theorem Yields.stay (a : α) (s : State) : Yields [] s.dev [] s (Run.go a s) := fun rest h =>
  ⟨a, by rw [List.length_nil, progressed_zero (rest := rest) h]⟩

theorem Yields.bind {r : Run α} {f : α → State → Run β} (h : Yields as d es s r)
    (hf : ∀ a rest, Yields bs d' es' (s.progressed d es rest as.length) (f a (s.progressed d es rest as.length))) :
    Yields (as ++ bs) d' (es ++ es') s (r.bind f) := by
  intro rest hans
  obtain ⟨a, hgo⟩ := h (bs ++ rest) (hans.trans (List.append_assoc _ _ _))
  obtain ⟨b, hgo'⟩ := hf a (bs ++ rest) rest rfl
  exact ⟨b, by rw [hgo, Run.bind_go, hgo', progressed_progressed, List.length_append]⟩

/-- What goes on is not lifted. -/
theorem Yields.fatalOnFail {r : Run α} (h : Yields as d es s r) : Yields as d es s r.fatalOnFail := by
  intro rest hans
  obtain ⟨a, hgo⟩ := h rest hans
  exact ⟨a, by rw [hgo, Run.fatalOnFail_go]⟩

/-- A SET command's procedure run as a part of INIT. -/
theorem Yields.sub {body : State → Run Word32} (h : Yields as d es s (body s)) : Yields as d es s (sub body s) := by
  intro rest hans
  obtain ⟨a, hgo⟩ := h.fatalOnFail rest hans
  exact ⟨(), by rw [Machine.sub, hgo, Run.bind_go]⟩

/-! ### The steps of loading -/

theorem smoothWrite_eq_progressed (s : State) (addr : Addr) (v : Byte) (a : Answer) (rest : List Answer) :
    s.smoothWrite addr v a rest = s.progressed s.dev (smoothEvents s.cfg .write1 (hdr 0 0 addr) [v] a) rest 1 := by
  rw [hdr_write1_eq_setWidth]
  rfl

theorem busWrite1_yields {a : Answer} (addr : Addr) (v : Byte) (hs : Smooth s.cfg .write 0 a) :
    Yields [a] s.dev (smoothEvents s.cfg .write1 (hdr 0 0 addr) [v] a) s (busWrite1 addr v s) := fun rest hans =>
  ⟨a, by rw [busWrite1_smooth addr v hans hs, smoothWrite_eq_progressed]; rfl⟩

/-- One write for each entry of a list (R254 steps 1, 2 and 8). -/
theorem writeAll_yields {ws : List (Addr × Byte)} (hlen : as.length = ws.length)
    (hs : ∀ a ∈ as, Smooth s.cfg .write 0 a) :
    Yields as s.dev (writeEvents s.cfg ws as) s (writeAll ws s) := by
  induction ws generalizing s as with
  | nil =>
    rw [List.length_eq_zero_iff.mp hlen]
    exact .stay () s
  | cons w ws ih =>
    obtain ⟨a, as, rfl⟩ := List.exists_cons_of_length_eq_add_one hlen
    obtain ⟨ha, has⟩ := List.forall_mem_cons.mp hs
    exact (busWrite1_yields w.1 w.2 ha).fatalOnFail.bind (bs := as) fun _ rest =>
      ih (s := s.progressed _ _ rest 1) (Nat.succ.inj hlen) has

/-- The events of a frequency word's three writes (R125). -/
def freqEvents (c : Config) (w : Nat) (f2 f1 f0 : Answer) : List Event :=
  smoothEvents c .write1 (hdr 0 0 c.reg.freq2) [BitVec.ofNat 8 (w / 2 ^ 16)] f2
    ++ smoothEvents c .write1 (hdr 0 0 c.reg.freq1) [BitVec.ofNat 8 (w / 2 ^ 8)] f1
    ++ smoothEvents c .write1 (hdr 0 0 c.reg.freq0) [BitVec.ofNat 8 w] f0

/-- The three writes of the carrier (R254 step 3). -/
theorem setfreqBody_yields {hz : Word32} {f2 f1 f0 : Answer} {w : Nat} (hw : encFreq (clampHz hz.toNat) s.oscNat = w)
    (hfits : freqOverflow w = false) (h2 : Smooth s.cfg .write 0 f2) (h1 : Smooth s.cfg .write 0 f1)
    (h0 : Smooth s.cfg .write 0 f0) :
    Yields [f2, f1, f0] { s.dev with freqHz := some (BitVec.ofNat 32 (clampHz hz.toNat)) }
      (freqEvents s.cfg w f2 f1 f0) s (setfreqBody hz s) := by
  intro rest hans
  rw [setfreqBody_fits (hw ▸ hfits), hw, freqWrites_smooth w hans h2 h1 h0, Run.bind_go]
  simp only [← hdr_write1_eq_setWidth, List.append_assoc]
  refine ⟨_, congrArg (Run.go _) ?_⟩
  simp only [State.setFreq, State.progressed, freqEvents, List.append_assoc]
  rfl

/-- The bandwidth's read and write (R254 step 4). -/
theorem setbwBody_yields {hz osc : Word32} {ar aw : Answer} {old : Byte} (hosc : s.dev.oscHz = some osc)
    (hold : ar.data = [old]) (hr : Smooth s.cfg .read 1 ar) (hw : Smooth s.cfg .write 0 aw) :
    Yields [ar, aw] s.dev
      (smoothEvents s.cfg .read1 (hdr 1 0 s.cfg.reg.mdmcfg4) [] ar
        ++ smoothEvents s.cfg .write1 (hdr 0 0 s.cfg.reg.mdmcfg4) [merge4 (encBw hz.toNat osc.toNat) old] aw)
      s (setbwBody hz s) := by
  intro rest hans
  rw [setbwBody_smooth hosc hans hold hr hw, smoothWrite_eq_progressed]
  exact ⟨_, congrArg (Run.go _) (progressed_progressed s s.dev s.dev _ _ _ rest 1 1)⟩

/-- The deviation's write, or nothing for on/off keying (R255). -/
theorem devStep_yields {osc : Word32} (hosc : s.dev.oscHz = some osc)
    (hlen : as.length = if isOok s.radio.modem then 0 else 1) (hs : ∀ a ∈ as, Smooth s.cfg .write 0 a) :
    Yields as s.dev
      (writeEvents s.cfg [(s.cfg.reg.deviatn, devByte (encDev s.cfg.devTable s.radio.devHz.toNat osc.toNat))] as)
      s (devStep s) := by
  cases hook : isOok s.radio.modem with
  | true =>
    rw [devStep, hook, if_pos rfl]
    rw [hook, if_pos rfl] at hlen
    rw [List.length_eq_zero_iff.mp hlen]
    exact .stay () s
  | false =>
    rw [hook] at hlen
    obtain ⟨a, rfl⟩ := List.length_eq_one_iff.mp hlen
    have hdev : devStep s = sub (setdevBody s.radio.devHz) s := by rw [devStep, hook]; rfl
    have ha := hs a (List.mem_singleton_self a)
    rw [hdev]
    refine Yields.sub fun rest hans => ?_
    rw [setdevBody_smooth hosc hans ha, smoothWrite_eq_progressed]
    exact ⟨_, by simp [writeEvents]; rfl⟩

/-- The staged buffer's burst (R254 step 6). -/
theorem setpwrBody_yields {dbm : Byte} {f : Word32} {a : Answer} (hf : s.dev.freqHz = some f)
    (hl : paTableFits s.cfg f) (hs : Smooth s.cfg .write 0 a) :
    Yields [a] (s.staged f dbm).dev
      (smoothEvents s.cfg .writeN (hdr 0 1 s.cfg.reg.patable) (s.staged f dbm).dev.paBuf.toList a)
      s (setpwrBody dbm s) := by
  intro rest hans
  rw [setpwrBody_staged hf hl, busWriteN_smooth (s := s.staged f dbm) _ _ hans hs, Run.bind_go]
  exact ⟨_, rfl⟩

/-- The events of SETMOD's two writes and the read between them (R200, R205). -/
def modEvents (c : Config) (modem fe : Byte) (am ar aw : Answer) : List Event :=
  smoothEvents c .write1 (hdr 0 0 c.reg.mdmcfg2) [modemByte c.mdmcfg2 modem] am
    ++ smoothEvents c .read1 (hdr 1 0 c.reg.frend0) [] ar
    ++ smoothEvents c .write1 (hdr 0 0 c.reg.frend0) [paSlotBit c.frend0PaBit fe (modField modem)] aw

/-- The modulation's write, and the front-end byte's read and write (R254 step 7). -/
theorem setmodBody_yields {fe : Byte} {am ar aw : Answer} (hmod : modReserved (modField s.radio.modem) = false)
    (hfe : ar.data = [fe]) (hm : Smooth s.cfg .write 0 am) (hr : Smooth s.cfg .read 1 ar)
    (hw : Smooth s.cfg .write 0 aw) :
    Yields [am, ar, aw] s.dev (modEvents s.cfg s.radio.modem fe am ar aw) s (setmodBody s) := by
  intro rest hans
  rw [setmodBody_smooth hmod hans hfe hm hr hw]
  refine ⟨_, congrArg (Run.go _) ?_⟩
  simp only [State.smoothWrite, State.smoothRead, State.progressed, modEvents, used_used, ← hdr_write1_eq_setWidth,
    List.append_assoc]
  rfl

/-! ### The whole of loading -/

/-- What loading needs of the parameters and the configuration record: a word, a table and a modulation that fit. -/
structure Loadable (c : Config) (r : RadioConfig) : Prop where
  word : freqOverflow (encFreq (clampHz r.freqHz.toNat) r.oscHz.toNat) = false
  table : paTableFits c (BitVec.ofNat 32 (clampHz r.freqHz.toNat))
  modulation : modReserved (modField r.modem) = false

/-- DeviceState after loading: the carrier recorded, the buffer staged for it. -/
def State.loadedDev (s : State) : DevState :=
  ((s.setFreq (initCarrier s)).staged (initCarrier s) s.radio.pwrDbm).dev

/-- The steps of loading, each after all before it (R254). -/
theorem loadConfig_eq (s : State) : loadConfig s =
    ((((((((writeAll s.cfg.fixedRegs s).bind fun _ u => writeAll (pktPreOf u.cfg u.radio) u).bind
      fun _ u => sub (setfreqBody u.radio.freqHz) u).bind fun _ u => sub (setbwBody u.radio.bwHz) u).bind
      fun _ => devStep).bind fun _ u => sub (setpwrBody u.radio.pwrDbm) u).bind fun _ => sub setmodBody).bind
      fun _ u => writeAll (pktPostOf u.cfg u.radio) u) := by
  simp only [loadConfig, Run.bind_assoc]

/-- The answers that loading uses when no status byte drains, step by step (R254). -/
structure LoadAnswers where
  fixed : List Answer
  pre : List Answer
  freq2 : Answer
  freq1 : Answer
  freq0 : Answer
  bwRead : Answer
  bwWrite : Answer
  dev : List Answer
  pa : Answer
  mod : Answer
  feRead : Answer
  feWrite : Answer
  post : List Answer

/-- Them in their order. -/
def LoadAnswers.all (x : LoadAnswers) : List Answer :=
  x.fixed ++ x.pre ++ [x.freq2, x.freq1, x.freq0] ++ [x.bwRead, x.bwWrite] ++ x.dev ++ [x.pa] ++
    [x.mod, x.feRead, x.feWrite] ++ x.post

/-- As many as there are exchanges, all smooth, with the two bytes that are read. -/
structure LoadAnswers.Smooth (x : LoadAnswers) (c : Config) (r : RadioConfig) (old fe : Byte) : Prop where
  fixed : x.fixed.length = c.fixedRegs.length
  pre : x.pre.length = (pktPreOf c r).length
  dev : x.dev.length = if isOok r.modem then 0 else 1
  post : x.post.length = (pktPostOf c r).length
  writes : ∀ a ∈ x.fixed ++ x.pre ++ [x.freq2, x.freq1, x.freq0, x.bwWrite] ++ x.dev ++ [x.pa, x.mod, x.feWrite]
    ++ x.post, Machine.Smooth c .write 0 a
  bwRead : Machine.Smooth c .read 1 x.bwRead
  feRead : Machine.Smooth c .read 1 x.feRead
  old : x.bwRead.data = [old]
  fe : x.feRead.data = [fe]

/-- The events of loading, step by step, with the buffer that is burst (R254). -/
def loadEvents (c : Config) (r : RadioConfig) (buf : Vector Byte 8) (old fe : Byte) (x : LoadAnswers) : List Event :=
  writeEvents c c.fixedRegs x.fixed
  ++ writeEvents c (pktPreOf c r) x.pre
  ++ freqEvents c (encFreq (clampHz r.freqHz.toNat) r.oscHz.toNat) x.freq2 x.freq1 x.freq0
  ++ (smoothEvents c .read1 (hdr 1 0 c.reg.mdmcfg4) [] x.bwRead
    ++ smoothEvents c .write1 (hdr 0 0 c.reg.mdmcfg4) [merge4 (encBw r.bwHz.toNat r.oscHz.toNat) old] x.bwWrite)
  ++ writeEvents c [(c.reg.deviatn, devByte (encDev c.devTable r.devHz.toNat r.oscHz.toNat))] x.dev
  ++ smoothEvents c .writeN (hdr 0 1 c.reg.patable) buf.toList x.pa
  ++ modEvents c r.modem fe x.mod x.feRead x.feWrite
  ++ writeEvents c (pktPostOf c r) x.post

theorem loadConfig_yields {old fe : Byte} {x : LoadAnswers} (hosc : s.dev.oscHz = some s.radio.oscHz)
    (h : Loadable s.cfg s.radio) (hx : x.Smooth s.cfg s.radio old fe) :
    Yields x.all s.loadedDev (loadEvents s.cfg s.radio s.loadedDev.paBuf old fe x) s (loadConfig s) := by
  obtain ⟨hword, htable, hmod⟩ := h
  obtain ⟨hfixed, hpre, hdev, hpost, hwrites, hbr, hfr, hold, hfe⟩ := hx
  have hw : encFreq (clampHz s.radio.freqHz.toNat) s.oscNat =
      encFreq (clampHz s.radio.freqHz.toNat) s.radio.oscHz.toNat := by rw [oscNat_eq hosc]
  simp only [List.forall_mem_append, List.forall_mem_cons] at hwrites
  obtain ⟨⟨⟨⟨⟨hsf, hsp⟩, h2, h1, h0, hbw, -⟩, hsd⟩, hpa, hmd, hfw, -⟩, hspost⟩ := hwrites
  rw [loadConfig_eq, LoadAnswers.all, loadEvents]
  refine .bind (d := s.loadedDev) ?_ fun _ _ => writeAll_yields hpost hspost
  refine .bind (d := s.loadedDev) ?_ fun _ _ => .sub (setmodBody_yields hmod hfe hmd hfr hfw)
  refine .bind (d := (s.setFreq (initCarrier s)).dev) ?_ fun _ _ => .sub (setpwrBody_yields rfl htable hpa)
  refine .bind (d := (s.setFreq (initCarrier s)).dev) ?_ fun _ _ => devStep_yields hosc hdev hsd
  refine .bind (d := (s.setFreq (initCarrier s)).dev) ?_ fun _ _ => .sub (setbwBody_yields hosc hold hbr hbw)
  refine .bind (d := s.dev) ?_ fun _ _ => .sub (setfreqBody_yields hw hword h2 h1 h0)
  exact (writeAll_yields hfixed hsf).bind fun _ _ => writeAll_yields hpre hsp

end Sys2Proof.Machine
end

section
/-! SUPPORT. Configuration loading on any successful answers without a drain (46_controller.md R254, R255; 49_laws.md
R394; log 12): whatever bytes they bring, it uses exactly one for each exchange. -/

namespace Sys2Proof.Machine

variable {α β : Type} {s : State} {d d' : DevState} {j k : Nat}

/-! ### Answers without a drain -/

/-- The next `k` answers are decided successes on which no exchange drains. -/
def State.Calm (s : State) (k : Nat) : Prop :=
  k ≤ s.env.answers.length ∧ ∀ a ∈ s.env.answers.take k, a.ok = true ∧ drains s.cfg a.status .read = false

theorem calm_of_answers {body rest : List Answer} (h : s.env.answers = body ++ rest)
    (hbody : ∀ a ∈ body, a.ok = true ∧ drains s.cfg a.status .read = false) : s.Calm body.length := by
  rw [State.Calm, h, List.take_left]
  exact ⟨by simp, hbody⟩

theorem State.Calm.left (h : s.Calm (j + k)) : s.Calm j := by
  obtain ⟨hlen, hcalm⟩ := h
  exact ⟨by omega, fun a ha => hcalm a (List.take_subset_take_left _ (Nat.le_add_right j k) ha)⟩

/-- After `j` of the answers, the others are next. -/
theorem State.Calm.right (h : s.Calm (j + k)) (d : DevState) (es : List Event) :
    (s.progressed d es (s.env.answers.drop j) j).Calm k := by
  obtain ⟨hlen, hcalm⟩ := h
  refine ⟨?_, fun a ha => hcalm a ?_⟩
  · change k ≤ (s.env.answers.drop j).length
    rw [List.length_drop]
    omega
  · rw [List.take_add]
    exact List.mem_append_right _ ha

/-- A byte on which a read does not drain is one on which a write does not (R227). -/
theorem drains_of_read {c : Config} {status : Byte} (h : drains c status .read = false) (trig : Trigger) :
    drains c status trig = false := by
  rw [Bool.eq_false_iff] at h ⊢
  intro hd
  rcases drains_cases hd with hover | ⟨hrx, hcount, rfl⟩
  · exact h (by simp only [drains, hover])
  · exact h hd

/-- An exchange delivers the next answer fitted to its width, as if the environment had decided that one (log 12). -/
theorem exchange_fitted {kind : BusKind} {header : Byte} {sent : List Byte} {n : Nat} {a : Answer} {rest : List Answer}
    (h : s.env.answers = a :: rest) :
    exchange kind header sent n s =
      exchange kind header sent n (s.setEnv { s.env with answers := s.env.nextAnswer n :: rest }) := by
  have hfit : ({ s.env with answers := s.env.nextAnswer n :: rest } : Env).nextAnswer n = s.env.nextAnswer n :=
    nextAnswer_decided rfl (nextAnswer_length _ _)
  simp only [exchange, setEnv_env, hfit]
  simp [Env.afterAnswer, h, State.setEnv, State.emit]

/-! ### Procedures that use a number of answers -/

/-- On `k` answers without a drain the procedure goes on, having used them and left this DeviceState; but for events
nothing else is changed. -/
def Passes (k : Nat) (d : DevState) (s : State) (r : Run α) : Prop :=
  s.Calm k → ∃ a es, r = .go a (s.progressed d es (s.env.answers.drop k) k)

/-- A step without an exchange, which may write DeviceState. -/
theorem Passes.write (a : α) (s : State) (d : DevState) : Passes 0 d s (Run.go a { s with dev := d }) := fun _ =>
  ⟨a, [], congrArg (Run.go a) (progressed_zero (s := { s with dev := d }) rfl).symm⟩

theorem Passes.stay (a : α) (s : State) : Passes 0 s.dev s (Run.go a s) := .write a s s.dev

theorem Passes.bind {r : Run α} {f : α → State → Run β} (h : Passes j d s r)
    (hf : ∀ a es rest, Passes k d' (s.progressed d es rest j) (f a (s.progressed d es rest j))) :
    Passes (j + k) d' s (r.bind f) := by
  intro hcalm
  obtain ⟨a, es, hgo⟩ := h hcalm.left
  obtain ⟨b, es', hgo'⟩ := hf a es _ (hcalm.right d es)
  have hdrop : (s.progressed d es (s.env.answers.drop j) j).env.answers.drop k = s.env.answers.drop (j + k) :=
    List.drop_drop
  exact ⟨b, es ++ es', by rw [hgo, Run.bind_go, hgo', progressed_progressed, hdrop]⟩

theorem Passes.fatalOnFail {r : Run α} (h : Passes k d s r) : Passes k d s r.fatalOnFail := by
  intro hcalm
  obtain ⟨a, es, hgo⟩ := h hcalm
  exact ⟨a, es, by rw [hgo, Run.fatalOnFail_go]⟩

/-- A SET command's procedure run as a part of INIT. -/
theorem Passes.sub {body : State → Run Word32} (h : Passes k d s (body s)) : Passes k d s (sub body s) :=
  h.fatalOnFail.bind (k := 0) fun _ _ _ => .stay () _

/-- An interpreted primitive uses one. -/
theorem interpreted_passes (trig : Trigger) (kind : BusKind) (header : Byte) (sent : List Byte) (n : Nat) (s : State) :
    Passes 1 s.dev s (interpreted trig (exchange kind header sent n s)) := by
  intro hcalm
  obtain ⟨hlen, hcalm⟩ := hcalm
  obtain ⟨a, rest, hans⟩ := List.exists_cons_of_length_pos hlen
  obtain ⟨hok, hdrain⟩ := hcalm a (by simp [hans])
  have hnext : (s.env.nextAnswer n).ok = true ∧ (s.env.nextAnswer n).status = a.status := by
    simp [Env.nextAnswer, hans, hok]
  have hsmooth : Smooth s.cfg trig n (s.env.nextAnswer n) :=
    ⟨hnext.1, nextAnswer_length _ _, hnext.2 ▸ drains_of_read hdrain trig⟩
  have hgo := interpreted_smooth (k := kind) (header := header) (sent := sent) (rest := rest)
    (s := s.setEnv { s.env with answers := s.env.nextAnswer n :: rest }) rfl hsmooth
  have hdrop : s.env.answers.drop 1 = rest := by rw [hans]; rfl
  rw [exchange_fitted hans, hdrop]
  exact ⟨_, _, hgo⟩

theorem busStrobe_passes (c : Byte) (s : State) : Passes 1 s.dev s (busStrobe c s) := interpreted_passes _ _ _ _ _ s
theorem busWrite1_passes (a : Addr) (v : Byte) (s : State) : Passes 1 s.dev s (busWrite1 a v s) :=
  interpreted_passes _ _ _ _ _ s
theorem busRead1_passes (a : Addr) (s : State) : Passes 1 s.dev s (busRead1 a s) := interpreted_passes _ _ _ _ _ s
theorem busWriteN_passes (a : Addr) (p : List Byte) (s : State) : Passes 1 s.dev s (busWriteN a p s) :=
  interpreted_passes _ _ _ _ _ s

/-! ### The steps of loading -/

theorem writeAll_passes (ws : List (Addr × Byte)) (s : State) : Passes ws.length s.dev s (writeAll ws s) := by
  induction ws generalizing s with
  | nil => exact .stay () s
  | cons w ws ih =>
    rw [List.length_cons, Nat.add_comm]
    exact (busWrite1_passes w.1 w.2 s).fatalOnFail.bind fun _ _ _ => ih (s.progressed _ _ _ 1)

theorem setfreqBody_passes {hz : Word32} (h : freqOverflow (encFreq (clampHz hz.toNat) s.oscNat) = false) :
    Passes 3 { s.dev with freqHz := some (BitVec.ofNat 32 (clampHz hz.toNat)) } s (setfreqBody hz s) := by
  have hwrites : Passes 3 s.dev s (freqWrites (encFreq (clampHz hz.toNat) s.oscNat) s) := by
    refine (busWrite1_passes _ _ s).bind (k := 2) fun _ _ _ => ?_
    refine (busWrite1_passes _ _ _).bind (k := 1) fun _ _ _ => ?_
    exact (busWrite1_passes _ _ _).bind (k := 0) fun _ _ _ => .stay () _
  rw [setfreqBody_fits h]
  exact hwrites.bind (k := 0) fun _ es rest => .write _ (s.progressed s.dev es rest 3) _

theorem setbwBody_passes (hz : Word32) (s : State) : Passes 2 s.dev s (setbwBody hz s) := by
  refine (busRead1_passes _ s).bind (k := 1) fun _ _ _ => ?_
  exact (busWrite1_passes _ _ _).bind (k := 0) fun _ _ _ => .stay _ _

theorem devStep_passes (s : State) :
    Passes (if isOok s.radio.modem then 0 else 1) s.dev s (devStep s) := by
  unfold devStep
  cases isOok s.radio.modem with
  | true => exact .stay () s
  | false => exact Passes.sub ((busWrite1_passes _ _ s).bind (k := 0) fun _ _ _ => .stay _ _)

theorem setpwrBody_passes {dbm : Byte} {f : Word32} (hf : s.dev.freqHz = some f) (hl : paTableFits s.cfg f) :
    Passes 1 (s.staged f dbm).dev s (setpwrBody dbm s) := by
  rw [setpwrBody_staged hf hl]
  exact (busWriteN_passes _ _ (s.staged f dbm)).bind (k := 0) fun _ _ _ => .stay _ _

theorem setmodBody_passes (h : modReserved (modField s.radio.modem) = false) : Passes 3 s.dev s (setmodBody s) := by
  simp only [setmodBody, h, Bool.false_eq_true, if_false]
  refine (busWrite1_passes _ _ s).bind (k := 2) fun _ _ _ => ?_
  refine (busRead1_passes _ _).bind (k := 1) fun _ _ _ => ?_
  exact (busWrite1_passes _ _ _).bind (k := 0) fun _ _ _ => .stay _ _

/-- The number of exchanges loading makes when no status byte drains (R394). -/
def loadExchanges (c : Config) (r : RadioConfig) : Nat :=
  c.fixedRegs.length + (pktPreOf c r).length + 3 + 2 + (if isOok r.modem then 0 else 1) + 1 + 3
    + (pktPostOf c r).length

theorem loadConfig_passes (hosc : s.dev.oscHz = some s.radio.oscHz) (h : Loadable s.cfg s.radio) :
    Passes (loadExchanges s.cfg s.radio) s.loadedDev s (loadConfig s) := by
  obtain ⟨hword, htable, hmod⟩ := h
  rw [← oscNat_eq hosc] at hword
  rw [loadConfig_eq, loadExchanges]
  refine .bind (d := s.loadedDev) ?_ fun _ _ _ => writeAll_passes _ _
  refine .bind (d := s.loadedDev) ?_ fun _ _ _ => .sub (setmodBody_passes hmod)
  refine .bind (d := (s.setFreq (initCarrier s)).dev) ?_ fun _ _ _ => .sub (setpwrBody_passes rfl htable)
  refine .bind (d := (s.setFreq (initCarrier s)).dev) ?_ fun _ _ _ => devStep_passes _
  refine .bind (d := (s.setFreq (initCarrier s)).dev) ?_ fun _ _ _ => .sub (setbwBody_passes _ _)
  refine .bind (d := s.dev) ?_ fun _ _ _ => .sub (setfreqBody_passes hword)
  exact (writeAll_passes _ s).bind fun _ _ _ => writeAll_passes _ _

theorem initExchanges_eq (s : State) : initExchanges s = 1 + loadExchanges s.cfg s.radio := by
  simp only [initExchanges, loadExchanges, Nat.add_assoc]

/-- Smooth answers for each step are as many as the exchanges. -/
theorem LoadAnswers.Smooth.length {x : LoadAnswers} {c : Config} {r : RadioConfig} {old fe : Byte}
    (h : x.Smooth c r old fe) : x.all.length = loadExchanges c r := by
  simp only [LoadAnswers.all, List.length_append, List.length_cons, List.length_nil, h.fixed, h.pre, h.dev, h.post,
    loadExchanges, Nat.zero_add, Nat.reduceAdd]

end Sys2Proof.Machine
end

section
/-! SUPPORT. INIT with every exchange answered and no drain, to its end (46_controller.md R250 to R257). -/

namespace Sys2Proof.Machine

variable {s : State} {p v : Answer} {pn ver : Byte} {rest : List Answer}

/-! ### Verification -/

/-- The state after both identification reads (R257). -/
def State.idsRead (s : State) (p v : Answer) (rest : List Answer) : State :=
  s.progressed s.dev (smoothEvents s.cfg .read1 (hdr 1 0 s.cfg.reg.partnum) [] p
    ++ smoothEvents s.cfg .read1 (hdr 1 0 s.cfg.reg.version) [] v) rest 2

theorem verify_smooth (h : s.env.answers = p :: v :: rest) (hp : Smooth s.cfg .read 1 p)
    (hv : Smooth s.cfg .read 1 v) (hpn : p.data = [pn]) (hver : v.data = [ver]) :
    verify s = if pn = 0x00 ∧ ver = 0x14 then .go 0x1400 ((s.idsRead p v rest).setCtl .idleReady)
      else .stop (.fatal .verifyFail) (s.idsRead p v rest) := by
  have hread : (s.smoothRead s.cfg.reg.partnum p (v :: rest)).smoothRead s.cfg.reg.version v rest =
      s.idsRead p v rest :=
    progressed_progressed s s.dev s.dev _ _ _ rest 1 1
  have hcfg : (s.smoothRead s.cfg.reg.partnum p (v :: rest)).cfg = s.cfg := rfl
  rw [verify, busRead1_smooth _ h hp, Run.fatalOnFail_go, Run.bind_go, hcfg,
    busRead1_smooth (s := s.smoothRead _ p _) _ rfl hv, Run.fatalOnFail_go, Run.bind_go, answer_byte_of_data hpn,
    answer_byte_of_data hver, hread]
  by_cases hgood : pn = 0x00 ∧ ver = 0x14
  · obtain ⟨rfl, rfl⟩ := hgood
    rfl
  · rw [if_neg hgood]
    exact if_pos (not_and_or.mp hgood)

/-! ### From the two waits and the load to the end -/

/-- The state in which INIT begins to load its configuration (R250). -/
def State.loading (s : State) (m n : Nat) (levels : List Bool) (es : List Event) (rest : List Answer) : State :=
  (s.started.afterReset m n levels es rest).setCtl .configLoading

/-- The end of INIT: the reset strobe has emitted `es`, and loading has used `k` answers, emitted `es'` and left `d`. -/
def State.initEnd (s : State) (m n : Nat) (levels : List Bool) (d : DevState) (es es' : List Event) (p v : Answer)
    (rest : List Answer) (k : Nat) (good : Bool) : State :=
  { s with
    dev := d
    ctl := if good then .idleReady else .faulted
    fault := if good then s.fault else 0x05
    ok := good
    res := if good then 0x00001400 else 0x0000000F
    trace := s.trace
      ++ [.ctl .resetting, .line (.clockSet true), .line (.dataOutSet false), .line .csAssert, .delay 40,
          .line .csDeassert]
      ++ waitEvents m ++ es ++ waitEvents n ++ [.ctl .configLoading] ++ es' ++ [.ctl .verifying]
      ++ smoothEvents s.cfg .read1 (hdr 1 0 s.cfg.reg.partnum) [] p
      ++ smoothEvents s.cfg .read1 (hdr 1 0 s.cfg.reg.version) [] v
      ++ [.ctl (if good then .idleReady else .faulted)]
    env := { s.env with answers := rest, levels := levels, fresh := s.env.fresh + (1 + k) + 2 } }

section Answered

variable {m n : Nat} {levels : List Bool} {good : Bool} (hctl : s.ctl = .uninitialized) (hosc : s.radio.oscHz ≠ 0)
  (hlevels : s.env.levels = List.replicate m true ++ false :: (List.replicate n true ++ false :: levels))
  (hp : Smooth s.cfg .read 1 p) (hv : Smooth s.cfg .read 1 v) (hpn : p.data = [pn]) (hver : v.data = [ver])
  (hgood : good = decide (pn = 0x00 ∧ ver = 0x14))

include hctl hosc hlevels hp hv hpn hver hgood

/-- INIT whose strobe and load go on. -/
theorem execInit_of_load {k : Nat} {a : Answer} {es es' : List Event} {left : List Answer} {d : DevState}
    (hstrobe : busStrobe s.cfg.stb.sres (s.started.beforeStrobe m n levels) =
      .go a ((s.started.beforeStrobe m n levels).progressed s.started.dev es left 1))
    (hload : loadConfig (s.loading m n levels es left) =
      .go () ((s.loading m n levels es left).progressed d es' (p :: v :: rest) k)) :
    exec .init s = .next (s.initEnd m n levels d es es' p v rest k good) := by
  have hverify := verify_smooth (s := ((s.loading m n levels es left).progressed d es' (p :: v :: rest) k).setCtl
    .verifying) rfl hp hv hpn hver
  have hreset : resetSeq s.started = .go () (s.started.afterReset m n levels es left) :=
    resetSeq_decided hlevels hstrobe
  rw [execInit_eq hctl, initBody_after_reset hosc hreset, ← State.loading, hload, Run.bind_go, hverify]
  by_cases hids : pn = 0x00 ∧ ver = 0x14
  · rw [if_pos hids, finish_go, hgood, decide_eq_true hids]
    simp [State.initEnd, State.idsRead, State.progressed, State.loading, State.afterReset, State.started, State.setCtl,
      State.setOsc, State.complete, Env.used, Nat.add_assoc]
  · rw [if_neg hids, finish_fatal, hgood, decide_eq_false hids]
    simp [State.initEnd, State.idsRead, State.progressed, State.loading, State.afterReset, State.started, State.setCtl,
      State.setOsc, State.complete, State.raiseFatal, FatalCode.code, fatalRes, Env.used, Nat.add_assoc]

/-- INIT on any successful answers without a drain. -/
theorem execInit_calm (hload : Loadable s.cfg s.radio) (hcalm : s.Calm (1 + loadExchanges s.cfg s.radio))
    (hleft : s.env.answers.drop (1 + loadExchanges s.cfg s.radio) = p :: v :: rest) :
    ∃ es es', exec .init s =
      .next (s.initEnd m n levels s.started.loadedDev es es' p v rest (loadExchanges s.cfg s.radio) good) := by
  obtain ⟨a, es, hstrobe⟩ := busStrobe_passes s.cfg.stb.sres (s.started.beforeStrobe m n levels) hcalm.left
  have hpasses := loadConfig_passes (s := s.loading m n levels es (s.env.answers.drop 1)) rfl hload
  obtain ⟨_, es', hgo⟩ := hpasses (hcalm.right s.dev es)
  rw [← List.drop_drop] at hleft
  exact ⟨es, es', execInit_of_load hctl hosc hlevels hp hv hpn hver hgood hstrobe (hleft ▸ hgo)⟩

/-- INIT on smooth answers, event by event. -/
theorem execInit_smooth {sres : Answer} {x : LoadAnswers} {old fe : Byte} (hload : Loadable s.cfg s.radio)
    (hx : x.Smooth s.cfg s.radio old fe) (hsres : Smooth s.cfg .write 0 sres)
    (hans : s.env.answers = sres :: (x.all ++ p :: v :: rest)) :
    exec .init s = .next (s.initEnd m n levels s.started.loadedDev
      (smoothEvents s.cfg .strobe s.cfg.stb.sres [] sres)
      (loadEvents s.cfg s.radio s.started.loadedDev.paBuf old fe x) p v rest (loadExchanges s.cfg s.radio) good) := by
  have hstrobe := busStrobe_smooth (s := s.started.beforeStrobe m n levels) s.cfg.stb.sres hans hsres
  have hyields := loadConfig_yields (s := s.loading m n levels (smoothEvents s.cfg .strobe s.cfg.stb.sres [] sres)
    (x.all ++ p :: v :: rest)) rfl hload hx
  obtain ⟨_, hgo⟩ := hyields (p :: v :: rest) rfl
  rw [hx.length] at hgo
  exact execInit_of_load hctl hosc hlevels hp hv hpn hver hgood hstrobe hgo

end Answered

/-! ### The operands of INIT as numbers -/

/-- DeviceState after loading, with the table's entry and the keying written out (R182, R185). -/
theorem loadedDev_eq {osc : Word32} {entry : Byte} {b : Fin 4} (hosc : s.dev.oscHz = some osc)
    (hb : b = band (clampHz s.radio.freqHz.toNat))
    (hentry : (s.cfg.paTab.get b)[paIndex b s.radio.pwrDbm.toInt]? = some entry) :
    s.loadedDev = {
      oscHz := some osc
      freqHz := some (BitVec.ofNat 32 (clampHz s.radio.freqHz.toNat))
      paSel := BitVec.ofNat 2 b.val
      paBuf := if isOok s.radio.modem then (s.dev.paBuf.set 0 0).set 1 entry
        else (s.dev.paBuf.set 0 entry).set 1 0 } := by
  have hband : band (initCarrier s).toNat = b := by rw [initCarrier, clampHz_toNat, hb]
  have hdev := staged_dev (s := s.setFreq (initCarrier s)) (f := initCarrier s) (dbm := s.radio.pwrDbm) (v := entry)
    (by rw [hband]; exact hentry)
  rw [State.loadedDev, hdev, hband]
  simp [DevState.staged, hosc, initCarrier, isOok_iff]

/-- A carrier whose word, table and modulation fit can be loaded. -/
theorem loadable_of_fits {w : Nat} (hosc : s.radio.oscHz ≠ 0)
    (hw : w = ⌊(clampHz s.radio.freqHz.toNat : ℚ) / ((s.radio.oscHz.toNat : ℚ) / 65536) + 1 / 2⌋₊) (hlt : w < 2 ^ 22)
    (htable : (s.cfg.paTab.get (band (clampHz s.radio.freqHz.toNat))).length =
      paLen (band (clampHz s.radio.freqHz.toNat)))
    (hmod : modReserved (modField s.radio.modem) = false) : Loadable s.cfg s.radio where
  word := by rwa [freqOverflow_eq_false_iff, encFreq_eq_floor _ (by bv_omega), ← hw]
  table := by rwa [paTableFits, clampHz_toNat]
  modulation := hmod

theorem paSlotBit_eq (q : Fin 8) (fe modem : Byte) :
    paSlotBit q fe (modField modem) = if isOok modem then fe ||| (1#8 <<< q.val) else fe &&& ~~~(1#8 <<< q.val) := by
  simp [paSlotBit, isOok]

/-- Settles O48: the strobe and the load go on and leave the two reads, on any answers without a drain and, event by
event, on smooth ones. -/
theorem initBringsTheBlockUp : Obligations.InitBringsTheBlockUp := by
  intro s m n levels rest p v fc w b entry buf dev hctl hwf hosc hlevels hfc hw hlt hb hl hentry hmod hbuf hdev
  obtain rfl : fc = clampHz s.radio.freqHz.toNat := hfc
  obtain rfl : b = band (clampHz s.radio.freqHz.toNat) := hb
  have hload := loadable_of_fits hosc hw hlt hl hmod
  have hloaded : s.started.loadedDev = dev := by
    rw [loadedDev_eq (s := s.started) (osc := s.radio.oscHz) rfl rfl hentry, hdev, hbuf]
    rfl
  refine ⟨fun body hans hlen hbody hp hv => ?_, ?_⟩
  · rw [initExchanges_eq] at hlen ⊢
    have hcalm := calm_of_answers hans fun a ha => hbody a (List.mem_append_left _ ha)
    have hleft : s.env.answers.drop body.length = p :: v :: rest := by rw [hans, List.drop_left]
    obtain ⟨hpok, hpcalm⟩ := hbody p (by simp)
    obtain ⟨hvok, hvcalm⟩ := hbody v (by simp)
    obtain ⟨es, es', hexec⟩ := execInit_calm (good := true) hctl hosc hlevels ⟨hpok, by rw [hp]; rfl, hpcalm⟩
      ⟨hvok, by rw [hv]; rfl, hvcalm⟩ hp hv (by decide) hload (hlen ▸ hcalm) (hlen ▸ hleft)
    rw [hexec, hloaded]
    simp only [State.initEnd, List.append_assoc]
    exact ⟨_, rfl⟩
  · intro sres f2 f1 f0 bwR bwW pa md feR feW fixed pre devW post old fe pn ver new fe2 i k good hans hfixed hpre hdevW
      hpost hwrites hreads hold hfe hpn hver hi hnew hk hfe2 hgood
    have hword : encFreq (clampHz s.radio.freqHz.toNat) s.radio.oscHz.toNat = w :=
      (encFreq_eq_floor _ (by bv_omega)).trans hw.symm
    have hmerge : merge4 (encBw s.radio.bwHz.toNat s.radio.oscHz.toNat) old = new := by
      rw [merge4_eq (encBw_lt _ _), hnew, hi, encBw]
    have hdevByte : devByte (encDev s.cfg.devTable s.radio.devHz.toNat s.radio.oscHz.toNat) =
        BitVec.ofNat 8 (16 * (k % 7) + k / 7) := by
      rw [devByte_eq (encDev_lt hwf _ _), hk, encDev]
    have hslot : paSlotBit s.cfg.frend0PaBit fe (modField s.radio.modem) = fe2 := (paSlotBit_eq _ _ _).trans hfe2.symm
    let x : LoadAnswers := ⟨fixed, pre, f2, f1, f0, bwR, bwW, devW, pa, md, feR, feW, post⟩
    have hx : x.Smooth s.cfg s.radio old fe :=
      ⟨hfixed, hpre, hdevW, hpost,
        fun a ha => hwrites a (by simp only [List.append_assoc, List.mem_append] at ha ⊢; exact .inr ha),
        hreads bwR (by simp), hreads feR (by simp), hold, hfe⟩
    have hall : s.env.answers = sres :: (x.all ++ p :: v :: rest) := by simp [hans, x, LoadAnswers.all]
    rw [execInit_smooth hctl hosc hlevels (hreads p (by simp)) (hreads v (by simp)) hpn hver hgood hload hx
      (hwrites sres (by simp)) hall, hloaded, initExchanges_eq, hdev]
    simp only [State.initEnd, loadEvents, freqEvents, modEvents, hword, hmerge, hdevByte, hslot, List.append_assoc, x]

end Sys2Proof.Machine
end

section
/-! SUPPORT. The frame of the commands that only send (41_bandwidth.md R140, 42_deviation.md R160,
45_status_interpreter.md R226, 47_bus_access.md R280): bus traffic, then the completion. -/

namespace Sys2Proof.Machine

variable {s t : State}

/-- Traffic and a completion, `ok` and `RES` being all that a completion writes (R11, R37). -/
theorem TrafficOnly.completionOnly (h : TrafficOnly s t) (ok : Bool) (v : Word32) :
    CompletionOnly s (t.complete ok v) :=
  ⟨h.cfg, h.radio, h.dev, h.ctl, h.fault, h.irqArmed, h.irqPolicy, h.nq, h.inputs, h.levels, h.waits, h.trace⟩

/-- A command whose procedure is rejected by its check, or only sends, enters no fatal fault; it completes, a refused
one included, with nothing but bus traffic before it. -/
theorem runCmd_completionOnly {k : Nat} {g : CmdGroup} {body : State → Run Word32}
    (h : (∃ e, body s = .stop (.fail e) s) ∨ Sends k s (body s)) (hnext : runCmd g body s = .next t) :
    CompletionOnly s t := by
  have hstay := TrafficOnly.refl s
  rcases runCmd_eq_next hnext with ⟨-, rfl⟩ | ⟨-, hfinish⟩
  · exact hstay.completionOnly _ _
  rcases h with ⟨e, hreject⟩ | hsends
  · rw [hreject, finish_fail] at hfinish
    cases hfinish
    exact hstay.completionOnly _ _
  · have hmeets := hsends.meets
    rcases finish_eq_next hfinish with ⟨v, u, hr, rfl⟩ | ⟨e, u, hr, rfl⟩ | ⟨c, u, hr, rfl⟩ <;> rw [hr] at hmeets
    · exact hmeets.traffic.completionOnly _ _
    · exact hmeets.traffic.completionOnly _ _
    · cases hmeets.stop

theorem wrregBody_rejected_or_sends (a : Addr) (v : Byte) (s : State) :
    (∃ e, wrregBody a v s = .stop (.fail e) s) ∨ Sends 4 s (wrregBody a v s) := by
  cases hcheck : writeCheck a with
  | some e => exact .inl ⟨e, wrregBody_rejected hcheck v s⟩
  | none => exact .inr (wrregBody_sends hcheck v s)

theorem wrburstBody_rejected_or_sends (a : Addr) (n : Byte) (s : State) :
    (∃ e, wrburstBody a n s = .stop (.fail e) s) ∨ Sends 4 s (wrburstBody a n s) := by
  cases hcheck : burstCheck a n 8 with
  | some e => exact .inl ⟨e, wrburstBody_rejected hcheck s⟩
  | none => exact .inr (wrburstBody_sends hcheck s)

theorem rdburstBody_rejected_or_sends (a : Addr) (n : Byte) (s : State) :
    (∃ e, rdburstBody a n s = .stop (.fail e) s) ∨ Sends 4 s (rdburstBody a n s) := by
  cases hcheck : burstCheck a n 255 with
  | some e => exact .inl ⟨e, rdburstBody_rejected hcheck s⟩
  | none => exact .inr (rdburstBody_sends hcheck s)

/-- Settles O17: three of the nine have a check before their exchange, and the others send at once. -/
theorem busCommandsChangeOnlyTheResult : Obligations.BusCommandsChangeOnlyTheResult := by
  rintro s t a v hz (h | h | h | h | h | h | h | h | h)
  · exact runCmd_completionOnly (wrregBody_rejected_or_sends a v s) h
  · exact runCmd_completionOnly (.inr (rdregBody_sends a s)) h
  · exact runCmd_completionOnly (wrburstBody_rejected_or_sends a v s) h
  · exact runCmd_completionOnly (rdburstBody_rejected_or_sends a v s) h
  · exact runCmd_completionOnly (.inr (strobeBody_sends v s)) h
  · exact runCmd_completionOnly (.inr (interpBody_sends v .write s)) h
  · exact runCmd_completionOnly (.inr (interpBody_sends v .read s)) h
  · exact runCmd_completionOnly (.inr (setbwBody_sends hz s)) h
  · exact runCmd_completionOnly (.inr (setdevBody_sends hz s)) h

end Sys2Proof.Machine
end

section
/-! SUPPORT. The bus access commands on a successful answer (47_bus_access.md R281 to R286): what each sends, header and
result as numbers, and how it ends, of which the smooth answer is a special case. -/

namespace Sys2Proof.Machine

variable {s : State} {a : Answer} {rest : List Answer}

/-! ### How a command of one exchange ends -/

/-- An admitted command of one exchange ends as the interpreter says, run on the state after the exchange. -/
theorem runCmd_answered {g : CmdGroup} {body : State → Run Word32} {trig : Trigger} {k : BusKind} {header : Byte}
    {sent : List Byte} {n : Nat} {v : Answer → Word32} {f : Answer → State → State} (hadm : admits g s.ctl = true)
    (hbody : body s = (interpreted trig (exchange k header sent n s)).bind fun r u => .go (v r) (f r u))
    (h : s.env.answers = a :: rest) (hok : a.ok = true) (hn : a.data.length = n) :
    runCmd g body s =
      interpretedEnd trig a.status (s.exchanged k header sent a rest) fun u => (f a u).complete true (v a) := by
  rw [runCmd_admitted hadm, hbody, finish_interpreted h hok hn]

/-- On a status byte that does not drain the interpreter only logs, and the command is done (R227, R228). -/
theorem interpretedEnd_calm {trig : Trigger} (h : drains s.cfg a.status trig = false) (k : BusKind) (header : Byte)
    (sent : List Byte) (rest : List Answer) (done : State → State) :
    interpretedEnd trig a.status (s.exchanged k header sent a rest) done = .next (done
      { s with trace := s.trace ++ smoothEvents s.cfg k header sent a, env := s.env.used rest 1 }) := by
  have hcfg : (s.exchanged k header sent a rest).cfg = s.cfg := rfl
  rw [interpretedEnd, interp_calm hcfg h]
  simp [State.exchanged, smoothEvents]

/-- What a command answers on any successful answer tells what it answers on a smooth one. -/
theorem smooth_and_successful {trig : Trigger} {n : Nat} {k : BusKind} {header : Byte} {sent : List Byte}
    {done : State → State} {o : Host.Outcome State Fault Refusal}
    (h : a.ok = true → a.data.length = n →
      o = interpretedEnd trig a.status (s.exchanged k header sent a rest) done) :
    (Smooth s.cfg trig n a → o = .next (done
      { s with trace := s.trace ++ smoothEvents s.cfg k header sent a, env := s.env.used rest 1 })) ∧
    (a.ok = true → a.data.length = n →
      o = interpretedEnd trig a.status (s.exchanged k header sent a rest) done) := by
  refine ⟨?_, h⟩
  rintro ⟨hok, hn, hcalm⟩
  rw [h hok hn, interpretedEnd_calm hcalm]

/-! ### Headers and results as numbers -/

theorem byte_eq_ofNat {b : Byte} {n : Nat} (h : b.toNat = n) : b = BitVec.ofNat 8 n := by
  rw [← h, BitVec.ofNat_toNat, BitVec.setWidth_eq]

/-- A status byte above a second byte, as the burst commands and RDREG return them (R282, R285, R286). -/
theorem statusAbove_eq_ofNat (status v : Byte) :
    (status.setWidth 32 <<< 8) ||| v.setWidth 32 = BitVec.ofNat 32 (256 * status.toNat + v.toNat) := by
  rw [shiftLeft_or_byte, BitVec.toNat_setWidth_of_le (by decide)]

/-! ### What each command sends -/

theorem wrregBody_exchange {addr : Addr} (h : isStatus addr = false) (v : Byte) (s : State) :
    wrregBody addr v s = (interpreted .write (exchange .write1 (BitVec.ofNat 8 addr.toNat) [v] 0 s)).bind fun r u =>
      .go (BitVec.ofNat 32 r.status.toNat) u := by
  obtain ⟨hheader, -, -, -⟩ := headerByteOfEveryAccess addr
  rw [wrregBody_admitted (writeCheck_eq_none h), busWrite1, rawWrite1, byte_eq_ofNat hheader]
  simp only [BitVec.ofNat_toNat]

theorem rdregBody_exchange (addr : Addr) (s : State) :
    rdregBody addr s = (interpreted .read (exchange .read1
        (BitVec.ofNat 8 ((if 0x30 ≤ addr.toNat ∧ addr.toNat ≤ 0x3D then 0xC0 else 0x80) + addr.toNat)) [] 1 s)).bind
      fun r u => .go (BitVec.ofNat 32 (256 * r.status.toNat + r.byte.toNat)) u := by
  obtain ⟨-, -, -, hheader⟩ := headerByteOfEveryAccess addr
  rw [rdregBody, busRead1, rawRead1, byte_eq_ofNat hheader]
  simp only [statusAbove_eq_ofNat]

theorem wrburstBody_exchange {addr : Addr} {n : Byte} (h : burstCheck addr n 8 = none) (s : State) :
    wrburstBody addr n s = (interpreted .write (exchange .writeN (BitVec.ofNat 8 (0x40 + addr.toNat))
        (s.dev.paBuf.toList.take n.toNat) 0 s)).bind fun r u =>
      .go (BitVec.ofNat 32 (256 * r.status.toNat + n.toNat)) u := by
  obtain ⟨-, hheader, -, -⟩ := headerByteOfEveryAccess addr
  rw [wrburstBody_admitted h, busWriteN, rawWriteN, byte_eq_ofNat hheader]
  simp only [statusAbove_eq_ofNat]

theorem rdburstBody_exchange {addr : Addr} {n : Byte} (h : burstCheck addr n 255 = none) (s : State) :
    rdburstBody addr n s = (interpreted .read (exchange .readN (BitVec.ofNat 8 (0xC0 + addr.toNat)) []
        n.toNat s)).bind fun r u =>
      .go (BitVec.ofNat 32 (256 * r.status.toNat + n.toNat)) (u.emit (.data .rdburst r.data)) := by
  obtain ⟨-, -, hheader, -⟩ := headerByteOfEveryAccess addr
  rw [rdburstBody_admitted h, busReadN, rawReadN, byte_eq_ofNat hheader]
  simp only [statusAbove_eq_ofNat]

theorem strobeBody_exchange (c : Byte) (s : State) :
    strobeBody c s = (interpreted .write (exchange .strobe c [] 0 s)).bind fun r u =>
      .go (BitVec.ofNat 32 r.status.toNat) u := by
  simp only [strobeBody, busStrobe, rawStrobe, BitVec.ofNat_toNat]

/-! ### The commands -/

/-- Settles O33: an ordinary address passes the check. -/
theorem wrregWritesOneByte : Obligations.WrregWritesOneByte := by
  intro s addr v a rest hctl hrange hans
  obtain ⟨hsmooth, hsuccess⟩ := smooth_and_successful
    (runCmd_answered (admits_radio hctl) (wrregBody_exchange (isStatus_eq_false hrange) v s) hans)
  exact ⟨hsmooth, fun hok hdata => hsuccess hok (by rw [hdata]; rfl)⟩

/-- Settles O34: RDREG has no check, and the one byte of the answer is the low byte of the result. -/
theorem rdregReadsOneByte : Obligations.RdregReadsOneByte := by
  rintro s addr v _ a rest hctl hans hdata rfl
  obtain ⟨hsmooth, hsuccess⟩ := smooth_and_successful
    (runCmd_answered (admits_radio hctl) (rdregBody_exchange addr s) hans)
  rw [answer_byte_of_data hdata] at hsmooth hsuccess
  exact ⟨hsmooth, fun hok => hsuccess hok (by rw [hdata]; rfl)⟩

/-- Settles O35: the address and the length pass the check. -/
theorem wrburstSendsTheStagingBuffer : Obligations.WrburstSendsTheStagingBuffer := by
  intro s addr n a rest hctl hrange h1 h8 hans
  have hcheck := burstCheck_eq_none (isStatus_eq_false hrange) h1 h8
  obtain ⟨hsmooth, hsuccess⟩ := smooth_and_successful
    (runCmd_answered (admits_radio hctl) (wrburstBody_exchange hcheck s) hans)
  exact ⟨hsmooth, fun hok hdata => hsuccess hok (by rw [hdata]; rfl)⟩

/-- Settles O36: the bytes are delivered when the interpreter has gone on. -/
theorem rdburstDeliversTheBytes : Obligations.RdburstDeliversTheBytes := by
  intro s addr n a rest hctl hrange hn hans
  have h1 : 1 ≤ n.toNat := by bv_omega
  have hcheck := burstCheck_eq_none (isStatus_eq_false hrange) h1 (Nat.le_of_lt_succ n.isLt)
  exact smooth_and_successful (runCmd_answered (admits_radio hctl) (rdburstBody_exchange hcheck s) hans)

/-- Settles O37: no check, and no register after the interpreter. -/
theorem strobeSendsItsByte : Obligations.StrobeSendsItsByte := by
  intro s c a rest hctl hans
  obtain ⟨hsmooth, hsuccess⟩ := smooth_and_successful
    (runCmd_answered (admits_radio hctl) (strobeBody_exchange c s) hans)
  exact ⟨hsmooth, fun hok hdata => hsuccess hok (by rw [hdata]; rfl)⟩

end Sys2Proof.Machine
end

section
/-! SUPPORT. The control register commands (48_config_access.md R300 to R302): CFGW's checks and the bits it keeps, and
each register CFGR reads as the number R301 gives. -/

namespace Sys2Proof.Machine

variable {s : State} {idx : CsrIdx} {v : Word32}

/-! ### CFGW -/

theorem admits_cfgw {c : CtlState} (h : c = .uninitialized ∨ c = .idleReady ∨ c = .receiving) :
    admits .cfgw c = true := by
  rcases h with rfl | rfl | rfl <;> rfl

/-- The low bits of a word. -/
theorem csrTrim_eq (idx : CsrIdx) (v : Word32) : csrTrim idx v = BitVec.ofNat 32 (v.toNat % 2 ^ csrWidth idx) := by
  rw [csrTrim, ← BitVec.toNat_setWidth, BitVec.ofNat_toNat]

/-- The reserved edge policy as a number (R29). -/
theorem edgePolicy_reserved_iff (v : Word32) : v.extractLsb' 0 2 = 3#2 ↔ v.toNat % 4 = 3 := by
  rw [← BitVec.toNat_inj, slice_toNat]
  simp

/-- The two rows of CFGW's check (R300). -/
theorem csrWriteCheck_rejects (h : 8 ≤ idx.toNat ∨ (idx = 7 ∧ v.toNat % 4 = 3)) :
    csrWriteCheck idx v = some .cfgIllegal := by
  rcases h with hread | ⟨rfl, hedge⟩
  · exact if_pos hread
  · exact (if_neg (by decide)).trans (if_pos ⟨rfl, (edgePolicy_reserved_iff v).mpr hedge⟩)

theorem csrWriteCheck_passes (h : idx.toNat < 8) (hedge : idx ≠ 7 ∨ v.toNat % 4 ≠ 3) : csrWriteCheck idx v = none :=
  (if_neg (by omega)).trans
    (if_neg fun ⟨h7, hv⟩ => hedge.elim (fun hne => hne h7) fun hne => hne ((edgePolicy_reserved_iff v).mp hv))

/-- An admitted CFGW that passes its check writes its register and returns the bits it keeps. -/
theorem exec_cfgw_passes (hctl : s.ctl = .uninitialized ∨ s.ctl = .idleReady ∨ s.ctl = .receiving)
    (hidx : idx.toNat < 8) (hedge : idx ≠ 7 ∨ v.toNat % 4 ≠ 3) :
    exec (.cfgw idx v) s = .next { s with
      radio := radioWrite s.radio idx v
      ok := true
      res := BitVec.ofNat 32 (v.toNat % 2 ^ csrWidth idx) } := by
  have hexec : exec (.cfgw idx v) s = finish (cfgwBody idx v s) := runCmd_admitted (admits_cfgw hctl)
  simp only [hexec, cfgwBody, csrWriteCheck_passes hidx hedge, finish_go, csrTrim_eq]
  rfl

/-- The registers of a whole word keep it as it is. -/
theorem exec_cfgw_word (hctl : s.ctl = .uninitialized ∨ s.ctl = .idleReady ∨ s.ctl = .receiving)
    (hidx : idx.toNat < 4) :
    exec (.cfgw idx v) s = .next { s with radio := radioWrite s.radio idx v, ok := true, res := v } := by
  have hwidth : csrWidth idx = 32 := by
    unfold csrWidth
    interval_cases idx.toNat <;> rfl
  have hne : idx ≠ 7 := by rintro rfl; exact absurd hidx (by decide)
  rw [exec_cfgw_passes hctl (by omega) (.inl hne), hwidth, Nat.mod_eq_of_lt v.isLt, BitVec.ofNat_toNat,
    BitVec.setWidth_eq]

/-- Settles O22: the whole words, then the registers narrower than the argument. -/
theorem cfgwStoresTheLowBits : Obligations.CfgwStoresTheLowBits := by
  intro s v hctl
  refine ⟨exec_cfgw_word hctl (by decide), exec_cfgw_word hctl (by decide), exec_cfgw_word hctl (by decide),
    exec_cfgw_word hctl (by decide), ?_, ?_, ?_, fun hedge => ?_⟩ <;> rw [BitVec.ofNat_toNat]
  · exact exec_cfgw_passes hctl (by decide) (.inl (by decide))
  · exact exec_cfgw_passes hctl (by decide) (.inl (by decide))
  · exact exec_cfgw_passes hctl (by decide) (.inl (by decide))
  · exact exec_cfgw_passes hctl (by decide) (.inr hedge)

/-- Settles O23: the body stops at its check. -/
theorem cfgwRejectsReadOnlyAndReserved : Obligations.CfgwRejectsReadOnlyAndReserved := by
  intro s idx v hctl hreject
  have hbody : cfgwBody idx v s = .stop (.fail .cfgIllegal) s := by
    simp only [cfgwBody, csrWriteCheck_rejects hreject]
  exact runCmd_rejected (admits_cfgw hctl) hbody

/-! ### CFGR -/

/-- CFGR is admitted in every controller state (R301). -/
theorem exec_cfgr (idx : CsrIdx) (s : State) : exec (.cfgr idx) s = .next { s with ok := true, res := s.csrRead idx } :=
  runCmd_admitted (g := .cfgr) (body := cfgrBody idx) (s := s) rfl

/-- Four bytes of the buffer as one word, the first lowest (R34). -/
theorem paWord_eq (b3 b2 b1 b0 : Byte) : (b3 ++ b2 ++ b1 ++ b0 : Word32) =
    BitVec.ofNat 32 (b0.toNat + 2 ^ 8 * b1.toNat + 2 ^ 16 * b2.toNat + 2 ^ 24 * b3.toNat) := by
  have hnat : (b3 ++ b2 ++ b1 ++ b0 : BitVec (8 + 8 + 8 + 8)).toNat =
      b0.toNat + 2 ^ 8 * b1.toNat + 2 ^ 16 * b2.toNat + 2 ^ 24 * b3.toNat := by
    rw [append_toNat, append_toNat, append_toNat]
    omega
  rw [← hnat, BitVec.ofNat_toNat, BitVec.setWidth_eq]

/-- `CTL_STATE` as a number: the state code below its four flags (R35). -/
theorem ctlWord_eq (s : State) : s.ctlWord.setWidth 32 = BitVec.ofNat 32 (s.ctl.code.toNat
    + (if s.dev.oscHz = none then 0 else 16) + (if s.dev.freqHz = none then 0 else 32)
    + (if s.irqArmed then 64 else 0) + (if s.nq = 0 then 0 else 128)) := by
  have hnat : s.ctlWord.toNat =
      s.nqf.toNat * 128 + s.irqArmed.toNat * 64 + s.frqv.toNat * 32 + s.oscv.toNat * 16 + s.ctl.code.toNat := by
    change (BitVec.ofBool s.nqf ++ BitVec.ofBool s.irqArmed ++ BitVec.ofBool s.frqv ++ BitVec.ofBool s.oscv ++ 0#1 ++
      s.ctl.code : BitVec (1 + 1 + 1 + 1 + 1 + 3)).toNat = _
    simp only [append_toNat, BitVec.toNat_ofBool, BitVec.toNat_ofNat]
    omega
  have hosc : s.oscv.toNat * 16 = if s.dev.oscHz = none then 0 else 16 := by
    rw [State.oscv]
    cases s.dev.oscHz <;> rfl
  have hfreq : s.frqv.toNat * 32 = if s.dev.freqHz = none then 0 else 32 := by
    rw [State.frqv]
    cases s.dev.freqHz <;> rfl
  have harmed : s.irqArmed.toNat * 64 = if s.irqArmed then 64 else 0 := by cases s.irqArmed <;> rfl
  have hnq : s.nqf.toNat * 128 = if s.nq = 0 then 0 else 128 := by
    rw [State.nqf]
    by_cases h : s.nq = 0 <;> simp [h]
  rw [← BitVec.ofNat_toNat, hnat, hosc, hfreq, harmed, hnq]
  congr 1
  omega

/-- Settles O24: index by index; the two words of the buffer and `CTL_STATE` are assembled. -/
theorem cfgrReturnsTheRegister : Obligations.CfgrReturnsTheRegister := by
  intro s idx
  rw [exec_cfgr]
  congr 2
  obtain ⟨k, hk, rfl⟩ : ∃ k < 16, idx = BitVec.ofNat 4 k := ⟨idx.toNat, idx.isLt, by simp⟩
  interval_cases k
  · rfl
  · rfl
  · rfl
  · rfl
  · rfl
  · exact (BitVec.ofNat_toNat 32 s.radio.modem).symm
  · exact (BitVec.ofNat_toNat 32 s.radio.pkt).symm
  · exact (BitVec.ofNat_toNat 32 s.radio.edge).symm
  · change s.dev.oscHz.getD 0 = _
    cases s.dev.oscHz <;> rfl
  · change s.dev.freqHz.getD 0 = _
    cases s.dev.freqHz <;> rfl
  · exact (BitVec.ofNat_toNat 32 s.dev.paSel).symm
  · exact paWord_eq _ _ _ _
  · exact paWord_eq _ _ _ _
  · refine (ctlWord_eq s).trans ?_
    cases s.ctl <;> rfl
  · exact (BitVec.ofNat_toNat 32 s.fault).symm
  · rfl

end Sys2Proof.Machine
end

section
/-! SUPPORT. The step on an edge, on power-on, on a rejected frame and with nothing presented (60_exceptions.md R319 to
R321, 70_reset_and_hazards.md R350, R351). -/

namespace Sys2Proof.Machine

variable {s : State}

theorem step_edge {e : Edge} (h : s.nextInput = some (.edge e)) : step s = .next (s.takeInput.interrupt e) := by
  simp only [step, h]

theorem step_powerOn (h : s.nextInput = some .powerOn) : step s = .next s.takeInput.powerOn := by
  simp only [step, h]

theorem step_idle (h : s.nextInput = none) : step s = .next s := by
  simp only [step, h]

theorem step_rejected {b : Bits} {e : FrameError} (h : s.nextInput = some (.words b)) (hd : decode b = .rejected e) :
    step s = .refused (.badFrame e) := by
  simp only [step, h, hd]

/-- The edges of each policy that CFGW stores (R29). -/
theorem edgeMatches_iff (policy : BitVec 2) (e : Edge) : edgeMatches policy e = true ↔
    policy = 2 ∨ (policy = 0 ∧ e = .rising) ∨ (policy = 1 ∧ e = .falling) := by
  simp [edgeMatches, or_assoc]

/-- A post fills an empty queue and is dropped on a full one (R321). -/
theorem post_eq (s : State) : s.post = { s with nq := if s.nq = 0 then 1 else s.nq } := by
  unfold State.post queueDepth
  by_cases h : s.nq = 0
  · simp [h, State.setNq]
  · simp [h]

/-- The interrupt step as one change of the queue. -/
theorem interrupt_eq (s : State) (e : Edge) : s.interrupt e = { s with
    nq := if s.irqArmed = true ∧ s.nq = 0 ∧ (s.irqPolicy = 2 ∨ (s.irqPolicy = 0 ∧ e = .rising) ∨
      (s.irqPolicy = 1 ∧ e = .falling)) then 1 else s.nq } := by
  simp only [State.interrupt, edgeMatches_iff]
  by_cases h : s.irqArmed = true ∧
      (s.irqPolicy = 2 ∨ (s.irqPolicy = 0 ∧ e = .rising) ∨ (s.irqPolicy = 1 ∧ e = .falling))
  · obtain ⟨harmed, hedge⟩ := h
    rw [if_pos ⟨harmed, hedge⟩, post_eq]
    simp only [harmed, hedge, and_true, true_and]
  · rw [if_neg h, if_neg fun ⟨harmed, _, hedge⟩ => h ⟨harmed, hedge⟩]

/-- Settles O9: the interrupt step on the state that has taken the edge. -/
theorem edgePostsOneNotification : Obligations.EdgePostsOneNotification := by
  intro s e rest hin _
  obtain ⟨hnext, htake⟩ := nextInput_of_inputs hin
  rw [step_edge hnext, interrupt_eq, htake]

/-- Settles O8: one equation of the step for each. -/
theorem stepWithoutAnInstruction : Obligations.StepWithoutAnInstruction := by
  refine ⟨fun s hin => step_idle (by rw [State.nextInput, hin]; rfl), fun s rest hin => ?_, fun s b rest e hin hd => ?_⟩
  · obtain ⟨hnext, htake⟩ := nextInput_of_inputs hin
    rw [step_powerOn hnext, htake]
    rfl
  · obtain ⟨hnext, -⟩ := nextInput_of_inputs hin
    exact step_rejected hnext hd

end Sys2Proof.Machine
end

section
/-! SUPPORT. Refusals, fatal fault entry and the state it leaves (60_exceptions.md R310 to R317, 10_state.md R36): in
Faulted every instruction that could move the controller or latch a code is refused. -/

namespace Sys2Proof.Machine

variable {s t : State}

/-! ### Refusals -/

theorem not_admits_radio {c : CtlState} (h : (c == .uninitialized || c == .faulted) = true) :
    admits .radio c = false := by
  have hctl : c = .uninitialized ∨ c = .faulted := by simpa using h
  rcases hctl with rfl | rfl <;> rfl

/-- Settles O18: the cells marked `R` are those the admission table does not admit, row by row. -/
theorem refusedCommandHasNoEffect : Obligations.RefusedCommandHasNoEffect := by
  intro i s h
  cases i with
  | cfgr | hdrWrite1 | hdrWriteN | hdrRead1 | hdrReadN => cases h
  | cfgw =>
    have hctl : s.ctl = .faulted := by simpa [refusedIn] using h
    exact runCmd_refused (g := .cfgw) (by rw [hctl]; rfl)
  | init =>
    have hctl : (s.ctl = .idleReady ∨ s.ctl = .receiving) ∨ s.ctl = .faulted := by simpa [refusedIn] using h
    exact runCmd_refused (g := .init) (by rcases hctl with (h | h) | h <;> rw [h] <;> rfl)
  | beginrx =>
    have hctl : (s.ctl = .uninitialized ∨ s.ctl = .receiving) ∨ s.ctl = .faulted := by simpa [refusedIn] using h
    exact runCmd_refused (g := .beginrx) (by rcases hctl with (h | h) | h <;> rw [h] <;> rfl)
  | reserved0 | reservedE | reservedF => exact runReserved_refused (by simpa [refusedIn] using h)
  | _ => exact runCmd_refused (not_admits_radio h)

/-! ### Fatal fault entry -/

/-- Settles O20: the code of R310, fault by fault. -/
theorem fatalFaultEntry : Obligations.FatalFaultEntry := by
  intro s c
  cases c <;> rfl

/-! ### Faulted -/

/-- What latches a code or moves the controller is refused in Faulted (R314). -/
theorem refusedIn_faulted_of_writer {i : Instr}
    (h : Piece.fault.Writer i ∨ ∃ c, (Piece.ctl c).Writer i) : refusedIn i .faulted = true := by
  rcases h with (rfl | ⟨_, rfl⟩ | ⟨_, rfl⟩ | rfl | rfl | rfl | rfl) | ⟨c, ⟨rfl, -⟩ | ⟨rfl, -⟩⟩ <;> rfl

/-- No instruction leaves Faulted or changes the latched code. -/
theorem exec_faulted {i : Instr} (hs : s.ctl = .faulted) (h : exec i s = .next t) :
    t.ctl = s.ctl ∧ t.fault = s.fault := by
  by_cases hrefused : refusedIn i .faulted = true
  · rw [refusedCommandHasNoEffect i s (by rw [hs, hrefused])] at h
    cases h
    exact ⟨rfl, rfl⟩
  · have hfault : ¬ Piece.fault.Writer i := fun hw => hrefused (refusedIn_faulted_of_writer (.inl hw))
    have hctl (c : CtlState) : ¬ (Piece.ctl c).Writer i := fun hw =>
      hrefused (refusedIn_faulted_of_writer (.inr ⟨c, hw⟩))
    have hends := exec_ends h
    exact ⟨(hends.kept (hctl t.ctl) (fun _ _ => hfault) rfl).symm, hends.kept hfault nofun⟩

/-- Settles O15: an instruction, an edge and an idle step. -/
theorem faultedIsTerminal : Obligations.FaultedIsTerminal := by
  intro s t hs hstep hpower
  suffices t.ctl = s.ctl ∧ t.fault = s.fault by rwa [hs] at this
  unfold step at hstep
  split at hstep
  · cases hstep
    exact ⟨rfl, rfl⟩
  · rename_i e _
    cases hstep
    rw [interrupt_eq]
    exact ⟨rfl, rfl⟩
  · rename_i hinput
    exact absurd hinput hpower
  · split at hstep
    · exact exec_faulted (s := s.takeInput) hs hstep
    · cases hstep

end Sys2Proof.Machine
end
